-- ==== Sys2Proof/Word.lean ====
section
/-! DEFINITION. The machine word, the address range and the device numbers (00_scope.md R6, R8). -/

namespace Sys2Proof

/-- A word: a sign (`neg` is the sign bit, true for `-`) and a 30-bit magnitude. `+0` and `-0` are distinct words
(R8, R47). The container's bit 30 is no part of the value, so it cannot be set (R46). -/
structure Word where
  neg : Bool
  mag : BitVec 30
deriving DecidableEq, Repr

/-- The word `+0`, container 0x00000000. -/
def Word.plusZero : Word := ⟨false, 0#30⟩

/-- A memory address, 0..3999 (R6 `MEM_WORDS`, R35). -/
abbrev Addr := Fin 4000

/-- A device number, 0..20 (R6 `N_DEVICES`, R350). -/
abbrev Device := Fin 21

end Sys2Proof
end

