-- ==== Sys2Proof/Syntax.lean ====
section
/-! DEFINITION. The instructions: one constructor per row of spec/opcode_table.json (30_encoding.md R90, R100). -/

namespace Sys2Proof

/-- The register numbers k = 0..7 of an opcode group (10_state.md R24): rA, rI[1]..rI[6], rX. -/
inductive Reg where
  | a
  | i1
  | i2
  | i3
  | i4
  | i5
  | i6
  | x
deriving DecidableEq, Repr

/-- The register number k = C mod 8 (R24). -/
def Reg.num : Reg → Nat
  | .a => 0
  | .i1 => 1
  | .i2 => 2
  | .i3 => 3
  | .i4 => 4
  | .i5 => 5
  | .i6 => 6
  | .x => 7

/-- The address part and the index specification of an instruction word (R90, R91, R92): the sign bit S (`neg`, true for
`-`), the address magnitude AA (0..4095) and the index number I (0..63). -/
structure AddrSpec where
  neg : Bool
  aa : Nat
  idx : Nat
deriving DecidableEq, Repr

/-- The 144 instructions of R100. `m` is the address part with the index specification; `f` is the modifier F of the
opcodes whose F is a field specifier, a device id, a word count or (NOP) ignored (R96). The instructions whose F selects
them have no `f`. -/
inductive Instr where
  | nop (m : AddrSpec) (f : Nat)
  | add (m : AddrSpec) (f : Nat)
  | sub (m : AddrSpec) (f : Nat)
  | mul (m : AddrSpec) (f : Nat)
  | div (m : AddrSpec) (f : Nat)
  | num (m : AddrSpec)
  | char (m : AddrSpec)
  | hlt (m : AddrSpec)
  | sla (m : AddrSpec)
  | sra (m : AddrSpec)
  | slax (m : AddrSpec)
  | srax (m : AddrSpec)
  | slc (m : AddrSpec)
  | src (m : AddrSpec)
  | move (m : AddrSpec) (f : Nat)
  | lda (m : AddrSpec) (f : Nat)
  | ld1 (m : AddrSpec) (f : Nat)
  | ld2 (m : AddrSpec) (f : Nat)
  | ld3 (m : AddrSpec) (f : Nat)
  | ld4 (m : AddrSpec) (f : Nat)
  | ld5 (m : AddrSpec) (f : Nat)
  | ld6 (m : AddrSpec) (f : Nat)
  | ldx (m : AddrSpec) (f : Nat)
  | ldan (m : AddrSpec) (f : Nat)
  | ld1n (m : AddrSpec) (f : Nat)
  | ld2n (m : AddrSpec) (f : Nat)
  | ld3n (m : AddrSpec) (f : Nat)
  | ld4n (m : AddrSpec) (f : Nat)
  | ld5n (m : AddrSpec) (f : Nat)
  | ld6n (m : AddrSpec) (f : Nat)
  | ldxn (m : AddrSpec) (f : Nat)
  | sta (m : AddrSpec) (f : Nat)
  | st1 (m : AddrSpec) (f : Nat)
  | st2 (m : AddrSpec) (f : Nat)
  | st3 (m : AddrSpec) (f : Nat)
  | st4 (m : AddrSpec) (f : Nat)
  | st5 (m : AddrSpec) (f : Nat)
  | st6 (m : AddrSpec) (f : Nat)
  | stx (m : AddrSpec) (f : Nat)
  | stj (m : AddrSpec) (f : Nat)
  | stz (m : AddrSpec) (f : Nat)
  | jbus (m : AddrSpec) (f : Nat)
  | ioc (m : AddrSpec) (f : Nat)
  | inp (m : AddrSpec) (f : Nat)
  | out (m : AddrSpec) (f : Nat)
  | jred (m : AddrSpec) (f : Nat)
  | jmp (m : AddrSpec)
  | jsj (m : AddrSpec)
  | jov (m : AddrSpec)
  | jnov (m : AddrSpec)
  | jl (m : AddrSpec)
  | je (m : AddrSpec)
  | jg (m : AddrSpec)
  | jge (m : AddrSpec)
  | jne (m : AddrSpec)
  | jle (m : AddrSpec)
  | jan (m : AddrSpec)
  | jaz (m : AddrSpec)
  | jap (m : AddrSpec)
  | jann (m : AddrSpec)
  | janz (m : AddrSpec)
  | janp (m : AddrSpec)
  | j1n (m : AddrSpec)
  | j1z (m : AddrSpec)
  | j1p (m : AddrSpec)
  | j1nn (m : AddrSpec)
  | j1nz (m : AddrSpec)
  | j1np (m : AddrSpec)
  | j2n (m : AddrSpec)
  | j2z (m : AddrSpec)
  | j2p (m : AddrSpec)
  | j2nn (m : AddrSpec)
  | j2nz (m : AddrSpec)
  | j2np (m : AddrSpec)
  | j3n (m : AddrSpec)
  | j3z (m : AddrSpec)
  | j3p (m : AddrSpec)
  | j3nn (m : AddrSpec)
  | j3nz (m : AddrSpec)
  | j3np (m : AddrSpec)
  | j4n (m : AddrSpec)
  | j4z (m : AddrSpec)
  | j4p (m : AddrSpec)
  | j4nn (m : AddrSpec)
  | j4nz (m : AddrSpec)
  | j4np (m : AddrSpec)
  | j5n (m : AddrSpec)
  | j5z (m : AddrSpec)
  | j5p (m : AddrSpec)
  | j5nn (m : AddrSpec)
  | j5nz (m : AddrSpec)
  | j5np (m : AddrSpec)
  | j6n (m : AddrSpec)
  | j6z (m : AddrSpec)
  | j6p (m : AddrSpec)
  | j6nn (m : AddrSpec)
  | j6nz (m : AddrSpec)
  | j6np (m : AddrSpec)
  | jxn (m : AddrSpec)
  | jxz (m : AddrSpec)
  | jxp (m : AddrSpec)
  | jxnn (m : AddrSpec)
  | jxnz (m : AddrSpec)
  | jxnp (m : AddrSpec)
  | inca (m : AddrSpec)
  | deca (m : AddrSpec)
  | enta (m : AddrSpec)
  | enna (m : AddrSpec)
  | inc1 (m : AddrSpec)
  | dec1 (m : AddrSpec)
  | ent1 (m : AddrSpec)
  | enn1 (m : AddrSpec)
  | inc2 (m : AddrSpec)
  | dec2 (m : AddrSpec)
  | ent2 (m : AddrSpec)
  | enn2 (m : AddrSpec)
  | inc3 (m : AddrSpec)
  | dec3 (m : AddrSpec)
  | ent3 (m : AddrSpec)
  | enn3 (m : AddrSpec)
  | inc4 (m : AddrSpec)
  | dec4 (m : AddrSpec)
  | ent4 (m : AddrSpec)
  | enn4 (m : AddrSpec)
  | inc5 (m : AddrSpec)
  | dec5 (m : AddrSpec)
  | ent5 (m : AddrSpec)
  | enn5 (m : AddrSpec)
  | inc6 (m : AddrSpec)
  | dec6 (m : AddrSpec)
  | ent6 (m : AddrSpec)
  | enn6 (m : AddrSpec)
  | incx (m : AddrSpec)
  | decx (m : AddrSpec)
  | entx (m : AddrSpec)
  | ennx (m : AddrSpec)
  | cmpa (m : AddrSpec) (f : Nat)
  | cmp1 (m : AddrSpec) (f : Nat)
  | cmp2 (m : AddrSpec) (f : Nat)
  | cmp3 (m : AddrSpec) (f : Nat)
  | cmp4 (m : AddrSpec) (f : Nat)
  | cmp5 (m : AddrSpec) (f : Nat)
  | cmp6 (m : AddrSpec) (f : Nat)
  | cmpx (m : AddrSpec) (f : Nat)
deriving DecidableEq, Repr

/-- The address part of an instruction. -/
def Instr.place : Instr → AddrSpec
  | .nop m _ => m
  | .add m _ => m
  | .sub m _ => m
  | .mul m _ => m
  | .div m _ => m
  | .num m => m
  | .char m => m
  | .hlt m => m
  | .sla m => m
  | .sra m => m
  | .slax m => m
  | .srax m => m
  | .slc m => m
  | .src m => m
  | .move m _ => m
  | .lda m _ => m
  | .ld1 m _ => m
  | .ld2 m _ => m
  | .ld3 m _ => m
  | .ld4 m _ => m
  | .ld5 m _ => m
  | .ld6 m _ => m
  | .ldx m _ => m
  | .ldan m _ => m
  | .ld1n m _ => m
  | .ld2n m _ => m
  | .ld3n m _ => m
  | .ld4n m _ => m
  | .ld5n m _ => m
  | .ld6n m _ => m
  | .ldxn m _ => m
  | .sta m _ => m
  | .st1 m _ => m
  | .st2 m _ => m
  | .st3 m _ => m
  | .st4 m _ => m
  | .st5 m _ => m
  | .st6 m _ => m
  | .stx m _ => m
  | .stj m _ => m
  | .stz m _ => m
  | .jbus m _ => m
  | .ioc m _ => m
  | .inp m _ => m
  | .out m _ => m
  | .jred m _ => m
  | .jmp m => m
  | .jsj m => m
  | .jov m => m
  | .jnov m => m
  | .jl m => m
  | .je m => m
  | .jg m => m
  | .jge m => m
  | .jne m => m
  | .jle m => m
  | .jan m => m
  | .jaz m => m
  | .jap m => m
  | .jann m => m
  | .janz m => m
  | .janp m => m
  | .j1n m => m
  | .j1z m => m
  | .j1p m => m
  | .j1nn m => m
  | .j1nz m => m
  | .j1np m => m
  | .j2n m => m
  | .j2z m => m
  | .j2p m => m
  | .j2nn m => m
  | .j2nz m => m
  | .j2np m => m
  | .j3n m => m
  | .j3z m => m
  | .j3p m => m
  | .j3nn m => m
  | .j3nz m => m
  | .j3np m => m
  | .j4n m => m
  | .j4z m => m
  | .j4p m => m
  | .j4nn m => m
  | .j4nz m => m
  | .j4np m => m
  | .j5n m => m
  | .j5z m => m
  | .j5p m => m
  | .j5nn m => m
  | .j5nz m => m
  | .j5np m => m
  | .j6n m => m
  | .j6z m => m
  | .j6p m => m
  | .j6nn m => m
  | .j6nz m => m
  | .j6np m => m
  | .jxn m => m
  | .jxz m => m
  | .jxp m => m
  | .jxnn m => m
  | .jxnz m => m
  | .jxnp m => m
  | .inca m => m
  | .deca m => m
  | .enta m => m
  | .enna m => m
  | .inc1 m => m
  | .dec1 m => m
  | .ent1 m => m
  | .enn1 m => m
  | .inc2 m => m
  | .dec2 m => m
  | .ent2 m => m
  | .enn2 m => m
  | .inc3 m => m
  | .dec3 m => m
  | .ent3 m => m
  | .enn3 m => m
  | .inc4 m => m
  | .dec4 m => m
  | .ent4 m => m
  | .enn4 m => m
  | .inc5 m => m
  | .dec5 m => m
  | .ent5 m => m
  | .enn5 m => m
  | .inc6 m => m
  | .dec6 m => m
  | .ent6 m => m
  | .enn6 m => m
  | .incx m => m
  | .decx m => m
  | .entx m => m
  | .ennx m => m
  | .cmpa m _ => m
  | .cmp1 m _ => m
  | .cmp2 m _ => m
  | .cmp3 m _ => m
  | .cmp4 m _ => m
  | .cmp5 m _ => m
  | .cmp6 m _ => m
  | .cmpx m _ => m

/-- The modifier an instruction carries as an operand, where its F is not a selector (R96). -/
def Instr.modifier : Instr → Option Nat
  | .nop _ f => some f
  | .add _ f => some f
  | .sub _ f => some f
  | .mul _ f => some f
  | .div _ f => some f
  | .num _ => none
  | .char _ => none
  | .hlt _ => none
  | .sla _ => none
  | .sra _ => none
  | .slax _ => none
  | .srax _ => none
  | .slc _ => none
  | .src _ => none
  | .move _ f => some f
  | .lda _ f => some f
  | .ld1 _ f => some f
  | .ld2 _ f => some f
  | .ld3 _ f => some f
  | .ld4 _ f => some f
  | .ld5 _ f => some f
  | .ld6 _ f => some f
  | .ldx _ f => some f
  | .ldan _ f => some f
  | .ld1n _ f => some f
  | .ld2n _ f => some f
  | .ld3n _ f => some f
  | .ld4n _ f => some f
  | .ld5n _ f => some f
  | .ld6n _ f => some f
  | .ldxn _ f => some f
  | .sta _ f => some f
  | .st1 _ f => some f
  | .st2 _ f => some f
  | .st3 _ f => some f
  | .st4 _ f => some f
  | .st5 _ f => some f
  | .st6 _ f => some f
  | .stx _ f => some f
  | .stj _ f => some f
  | .stz _ f => some f
  | .jbus _ f => some f
  | .ioc _ f => some f
  | .inp _ f => some f
  | .out _ f => some f
  | .jred _ f => some f
  | .jmp _ => none
  | .jsj _ => none
  | .jov _ => none
  | .jnov _ => none
  | .jl _ => none
  | .je _ => none
  | .jg _ => none
  | .jge _ => none
  | .jne _ => none
  | .jle _ => none
  | .jan _ => none
  | .jaz _ => none
  | .jap _ => none
  | .jann _ => none
  | .janz _ => none
  | .janp _ => none
  | .j1n _ => none
  | .j1z _ => none
  | .j1p _ => none
  | .j1nn _ => none
  | .j1nz _ => none
  | .j1np _ => none
  | .j2n _ => none
  | .j2z _ => none
  | .j2p _ => none
  | .j2nn _ => none
  | .j2nz _ => none
  | .j2np _ => none
  | .j3n _ => none
  | .j3z _ => none
  | .j3p _ => none
  | .j3nn _ => none
  | .j3nz _ => none
  | .j3np _ => none
  | .j4n _ => none
  | .j4z _ => none
  | .j4p _ => none
  | .j4nn _ => none
  | .j4nz _ => none
  | .j4np _ => none
  | .j5n _ => none
  | .j5z _ => none
  | .j5p _ => none
  | .j5nn _ => none
  | .j5nz _ => none
  | .j5np _ => none
  | .j6n _ => none
  | .j6z _ => none
  | .j6p _ => none
  | .j6nn _ => none
  | .j6nz _ => none
  | .j6np _ => none
  | .jxn _ => none
  | .jxz _ => none
  | .jxp _ => none
  | .jxnn _ => none
  | .jxnz _ => none
  | .jxnp _ => none
  | .inca _ => none
  | .deca _ => none
  | .enta _ => none
  | .enna _ => none
  | .inc1 _ => none
  | .dec1 _ => none
  | .ent1 _ => none
  | .enn1 _ => none
  | .inc2 _ => none
  | .dec2 _ => none
  | .ent2 _ => none
  | .enn2 _ => none
  | .inc3 _ => none
  | .dec3 _ => none
  | .ent3 _ => none
  | .enn3 _ => none
  | .inc4 _ => none
  | .dec4 _ => none
  | .ent4 _ => none
  | .enn4 _ => none
  | .inc5 _ => none
  | .dec5 _ => none
  | .ent5 _ => none
  | .enn5 _ => none
  | .inc6 _ => none
  | .dec6 _ => none
  | .ent6 _ => none
  | .enn6 _ => none
  | .incx _ => none
  | .decx _ => none
  | .entx _ => none
  | .ennx _ => none
  | .cmpa _ f => some f
  | .cmp1 _ f => some f
  | .cmp2 _ f => some f
  | .cmp3 _ f => some f
  | .cmp4 _ f => some f
  | .cmp5 _ f => some f
  | .cmp6 _ f => some f
  | .cmpx _ f => some f

/-- The eight instructions of one row of R100 by register number, C = 8 + k: load. -/
def Instr.ldOf (k : Reg) (m : AddrSpec) (f : Nat) : Instr :=
  match k with
  | .a => .lda m f
  | .i1 => .ld1 m f
  | .i2 => .ld2 m f
  | .i3 => .ld3 m f
  | .i4 => .ld4 m f
  | .i5 => .ld5 m f
  | .i6 => .ld6 m f
  | .x => .ldx m f

/-- The eight instructions of one row of R100 by register number, C = 16 + k: load negative. -/
def Instr.ldnOf (k : Reg) (m : AddrSpec) (f : Nat) : Instr :=
  match k with
  | .a => .ldan m f
  | .i1 => .ld1n m f
  | .i2 => .ld2n m f
  | .i3 => .ld3n m f
  | .i4 => .ld4n m f
  | .i5 => .ld5n m f
  | .i6 => .ld6n m f
  | .x => .ldxn m f

/-- The eight instructions of one row of R100 by register number, C = 24 + k: store. -/
def Instr.stOf (k : Reg) (m : AddrSpec) (f : Nat) : Instr :=
  match k with
  | .a => .sta m f
  | .i1 => .st1 m f
  | .i2 => .st2 m f
  | .i3 => .st3 m f
  | .i4 => .st4 m f
  | .i5 => .st5 m f
  | .i6 => .st6 m f
  | .x => .stx m f

/-- The eight instructions of one row of R100 by register number, C = 56 + k: compare. -/
def Instr.cmpOf (k : Reg) (m : AddrSpec) (f : Nat) : Instr :=
  match k with
  | .a => .cmpa m f
  | .i1 => .cmp1 m f
  | .i2 => .cmp2 m f
  | .i3 => .cmp3 m f
  | .i4 => .cmp4 m f
  | .i5 => .cmp5 m f
  | .i6 => .cmp6 m f
  | .x => .cmpx m f

/-- The eight instructions of one row of R100 by register number, C = 48 + k, F = 0: increment. -/
def Instr.incOf (k : Reg) (m : AddrSpec) : Instr :=
  match k with
  | .a => .inca m
  | .i1 => .inc1 m
  | .i2 => .inc2 m
  | .i3 => .inc3 m
  | .i4 => .inc4 m
  | .i5 => .inc5 m
  | .i6 => .inc6 m
  | .x => .incx m

/-- The eight instructions of one row of R100 by register number, C = 48 + k, F = 1: decrement. -/
def Instr.decOf (k : Reg) (m : AddrSpec) : Instr :=
  match k with
  | .a => .deca m
  | .i1 => .dec1 m
  | .i2 => .dec2 m
  | .i3 => .dec3 m
  | .i4 => .dec4 m
  | .i5 => .dec5 m
  | .i6 => .dec6 m
  | .x => .decx m

/-- The eight instructions of one row of R100 by register number, C = 48 + k, F = 2: enter. -/
def Instr.entOf (k : Reg) (m : AddrSpec) : Instr :=
  match k with
  | .a => .enta m
  | .i1 => .ent1 m
  | .i2 => .ent2 m
  | .i3 => .ent3 m
  | .i4 => .ent4 m
  | .i5 => .ent5 m
  | .i6 => .ent6 m
  | .x => .entx m

/-- The eight instructions of one row of R100 by register number, C = 48 + k, F = 3: enter negative. -/
def Instr.ennOf (k : Reg) (m : AddrSpec) : Instr :=
  match k with
  | .a => .enna m
  | .i1 => .enn1 m
  | .i2 => .enn2 m
  | .i3 => .enn3 m
  | .i4 => .enn4 m
  | .i5 => .enn5 m
  | .i6 => .enn6 m
  | .x => .ennx m

/-- The eight instructions of one row of R100 by register number, C = 40 + k, F = 0: jump if negative. -/
def Instr.jnOf (k : Reg) (m : AddrSpec) : Instr :=
  match k with
  | .a => .jan m
  | .i1 => .j1n m
  | .i2 => .j2n m
  | .i3 => .j3n m
  | .i4 => .j4n m
  | .i5 => .j5n m
  | .i6 => .j6n m
  | .x => .jxn m

/-- The eight instructions of one row of R100 by register number, C = 40 + k, F = 1: jump if zero. -/
def Instr.jzOf (k : Reg) (m : AddrSpec) : Instr :=
  match k with
  | .a => .jaz m
  | .i1 => .j1z m
  | .i2 => .j2z m
  | .i3 => .j3z m
  | .i4 => .j4z m
  | .i5 => .j5z m
  | .i6 => .j6z m
  | .x => .jxz m

/-- The eight instructions of one row of R100 by register number, C = 40 + k, F = 2: jump if positive. -/
def Instr.jpOf (k : Reg) (m : AddrSpec) : Instr :=
  match k with
  | .a => .jap m
  | .i1 => .j1p m
  | .i2 => .j2p m
  | .i3 => .j3p m
  | .i4 => .j4p m
  | .i5 => .j5p m
  | .i6 => .j6p m
  | .x => .jxp m

/-- The eight instructions of one row of R100 by register number, C = 40 + k, F = 3: jump if non-negative. -/
def Instr.jnnOf (k : Reg) (m : AddrSpec) : Instr :=
  match k with
  | .a => .jann m
  | .i1 => .j1nn m
  | .i2 => .j2nn m
  | .i3 => .j3nn m
  | .i4 => .j4nn m
  | .i5 => .j5nn m
  | .i6 => .j6nn m
  | .x => .jxnn m

/-- The eight instructions of one row of R100 by register number, C = 40 + k, F = 4: jump if non-zero. -/
def Instr.jnzOf (k : Reg) (m : AddrSpec) : Instr :=
  match k with
  | .a => .janz m
  | .i1 => .j1nz m
  | .i2 => .j2nz m
  | .i3 => .j3nz m
  | .i4 => .j4nz m
  | .i5 => .j5nz m
  | .i6 => .j6nz m
  | .x => .jxnz m

/-- The eight instructions of one row of R100 by register number, C = 40 + k, F = 5: jump if non-positive. -/
def Instr.jnpOf (k : Reg) (m : AddrSpec) : Instr :=
  match k with
  | .a => .janp m
  | .i1 => .j1np m
  | .i2 => .j2np m
  | .i3 => .j3np m
  | .i4 => .j4np m
  | .i5 => .j5np m
  | .i6 => .j6np m
  | .x => .jxnp m

end Sys2Proof
end

