-- ==== Sys2Proof/WellFormed.lean ====
section
/-! DEFINITION. When the fields of an instruction fit the encoding (30_encoding.md R90). -/

namespace Sys2Proof

/-- The address magnitude fits 12 bits and the index number fits 6 bits. Index numbers 7..63 are encodings the hardware
accepts (with warning W2), so they are well formed (R92). -/
def AddrSpec.fits (m : AddrSpec) : Bool :=
  decide (m.aa < 4096) && decide (m.idx < 64)

/-- A modifier, where the instruction carries one, fits 6 bits. Malformed field specifiers (R93) and invalid device ids
(R94) are encodings the hardware accepts (with a warning), so they are well formed. -/
def modifierFits : Option Nat → Bool
  | none => true
  | some f => decide (f < 64)

/-- Every field of the instruction fits the place the encoding gives it. -/
def Instr.fits (i : Instr) : Bool :=
  i.place.fits && modifierFits i.modifier

/-- The instruction is one an instruction word can hold. -/
abbrev WellFormed (i : Instr) : Prop := i.fits = true

end Sys2Proof
end

