-- ==== Sys2Proof/Decode.lean ====
section
/-! DEFINITION. Instruction words: the 32-bit container (00_scope.md R8), the decoder, total on any word, and the encoder,
both from 30_encoding.md R90 and R100. -/

namespace Sys2Proof

/-! ## The container (R8) -/

/-- The word of a 32-bit container: bit 31 is the sign, bits 29..0 the magnitude. Bit 30 is not looked at (R90, R105). -/
def Word.ofContainer (c : BitVec 32) : Word :=
  ⟨decide (2 ^ 31 ≤ c.toNat), BitVec.ofNat 30 c.toNat⟩

/-- The 32-bit container of a word; its bit 30 is 0 (R8, R46). -/
def Word.toContainer (w : Word) : BitVec 32 :=
  BitVec.ofNat 32 ((if w.neg then 2 ^ 31 else 0) + w.mag.toNat)

/-! ## The fields of an instruction word (R90) -/

/-- Why a word is no instruction. -/
inductive DecodeError where
  /-- C = `c` with the sub-operation F = `f` is one of the unsupported encodings of R104. -/
  | unsupported (c f : Nat)
deriving DecidableEq, Repr

/-- S, AA and I of an instruction word. -/
def addrSpecOf (w : Word) : AddrSpec :=
  ⟨w.neg, w.mag.toNat / 2 ^ 18, w.mag.toNat / 2 ^ 12 % 64⟩

/-- F of an instruction word. -/
def modifierOf (w : Word) : Nat := w.mag.toNat / 2 ^ 6 % 64

/-- C of an instruction word. -/
def opcodeOf (w : Word) : Nat := w.mag.toNat % 64

/-! ## The opcode map (R100) -/

/-- C = 5: F selects the instruction (R100); every other F is unsupported (R104). -/
def decodeSpecial (f : Nat) (m : AddrSpec) : Except DecodeError Instr :=
  match f with
  | 0 => .ok (.num m)
  | 1 => .ok (.char m)
  | 2 => .ok (.hlt m)
  | _ => .error (.unsupported 5 f)

/-- C = 6: F selects the instruction (R100); every other F is unsupported (R104). -/
def decodeShift (f : Nat) (m : AddrSpec) : Except DecodeError Instr :=
  match f with
  | 0 => .ok (.sla m)
  | 1 => .ok (.sra m)
  | 2 => .ok (.slax m)
  | 3 => .ok (.srax m)
  | 4 => .ok (.slc m)
  | 5 => .ok (.src m)
  | _ => .error (.unsupported 6 f)

/-- C = 39: F selects the instruction (R100); every other F is unsupported (R104). -/
def decodeJump (f : Nat) (m : AddrSpec) : Except DecodeError Instr :=
  match f with
  | 0 => .ok (.jmp m)
  | 1 => .ok (.jsj m)
  | 2 => .ok (.jov m)
  | 3 => .ok (.jnov m)
  | 4 => .ok (.jl m)
  | 5 => .ok (.je m)
  | 6 => .ok (.jg m)
  | 7 => .ok (.jge m)
  | 8 => .ok (.jne m)
  | 9 => .ok (.jle m)
  | _ => .error (.unsupported 39 f)

/-- C = 40: F selects the instruction (R100); every other F is unsupported (R104). -/
def decode40 (f : Nat) (m : AddrSpec) : Except DecodeError Instr :=
  match f with
  | 0 => .ok (.jan m)
  | 1 => .ok (.jaz m)
  | 2 => .ok (.jap m)
  | 3 => .ok (.jann m)
  | 4 => .ok (.janz m)
  | 5 => .ok (.janp m)
  | _ => .error (.unsupported 40 f)

/-- C = 41: F selects the instruction (R100); every other F is unsupported (R104). -/
def decode41 (f : Nat) (m : AddrSpec) : Except DecodeError Instr :=
  match f with
  | 0 => .ok (.j1n m)
  | 1 => .ok (.j1z m)
  | 2 => .ok (.j1p m)
  | 3 => .ok (.j1nn m)
  | 4 => .ok (.j1nz m)
  | 5 => .ok (.j1np m)
  | _ => .error (.unsupported 41 f)

/-- C = 42: F selects the instruction (R100); every other F is unsupported (R104). -/
def decode42 (f : Nat) (m : AddrSpec) : Except DecodeError Instr :=
  match f with
  | 0 => .ok (.j2n m)
  | 1 => .ok (.j2z m)
  | 2 => .ok (.j2p m)
  | 3 => .ok (.j2nn m)
  | 4 => .ok (.j2nz m)
  | 5 => .ok (.j2np m)
  | _ => .error (.unsupported 42 f)

/-- C = 43: F selects the instruction (R100); every other F is unsupported (R104). -/
def decode43 (f : Nat) (m : AddrSpec) : Except DecodeError Instr :=
  match f with
  | 0 => .ok (.j3n m)
  | 1 => .ok (.j3z m)
  | 2 => .ok (.j3p m)
  | 3 => .ok (.j3nn m)
  | 4 => .ok (.j3nz m)
  | 5 => .ok (.j3np m)
  | _ => .error (.unsupported 43 f)

/-- C = 44: F selects the instruction (R100); every other F is unsupported (R104). -/
def decode44 (f : Nat) (m : AddrSpec) : Except DecodeError Instr :=
  match f with
  | 0 => .ok (.j4n m)
  | 1 => .ok (.j4z m)
  | 2 => .ok (.j4p m)
  | 3 => .ok (.j4nn m)
  | 4 => .ok (.j4nz m)
  | 5 => .ok (.j4np m)
  | _ => .error (.unsupported 44 f)

/-- C = 45: F selects the instruction (R100); every other F is unsupported (R104). -/
def decode45 (f : Nat) (m : AddrSpec) : Except DecodeError Instr :=
  match f with
  | 0 => .ok (.j5n m)
  | 1 => .ok (.j5z m)
  | 2 => .ok (.j5p m)
  | 3 => .ok (.j5nn m)
  | 4 => .ok (.j5nz m)
  | 5 => .ok (.j5np m)
  | _ => .error (.unsupported 45 f)

/-- C = 46: F selects the instruction (R100); every other F is unsupported (R104). -/
def decode46 (f : Nat) (m : AddrSpec) : Except DecodeError Instr :=
  match f with
  | 0 => .ok (.j6n m)
  | 1 => .ok (.j6z m)
  | 2 => .ok (.j6p m)
  | 3 => .ok (.j6nn m)
  | 4 => .ok (.j6nz m)
  | 5 => .ok (.j6np m)
  | _ => .error (.unsupported 46 f)

/-- C = 47: F selects the instruction (R100); every other F is unsupported (R104). -/
def decode47 (f : Nat) (m : AddrSpec) : Except DecodeError Instr :=
  match f with
  | 0 => .ok (.jxn m)
  | 1 => .ok (.jxz m)
  | 2 => .ok (.jxp m)
  | 3 => .ok (.jxnn m)
  | 4 => .ok (.jxnz m)
  | 5 => .ok (.jxnp m)
  | _ => .error (.unsupported 47 f)

/-- C = 48: F selects the instruction (R100); every other F is unsupported (R104). -/
def decode48 (f : Nat) (m : AddrSpec) : Except DecodeError Instr :=
  match f with
  | 0 => .ok (.inca m)
  | 1 => .ok (.deca m)
  | 2 => .ok (.enta m)
  | 3 => .ok (.enna m)
  | _ => .error (.unsupported 48 f)

/-- C = 49: F selects the instruction (R100); every other F is unsupported (R104). -/
def decode49 (f : Nat) (m : AddrSpec) : Except DecodeError Instr :=
  match f with
  | 0 => .ok (.inc1 m)
  | 1 => .ok (.dec1 m)
  | 2 => .ok (.ent1 m)
  | 3 => .ok (.enn1 m)
  | _ => .error (.unsupported 49 f)

/-- C = 50: F selects the instruction (R100); every other F is unsupported (R104). -/
def decode50 (f : Nat) (m : AddrSpec) : Except DecodeError Instr :=
  match f with
  | 0 => .ok (.inc2 m)
  | 1 => .ok (.dec2 m)
  | 2 => .ok (.ent2 m)
  | 3 => .ok (.enn2 m)
  | _ => .error (.unsupported 50 f)

/-- C = 51: F selects the instruction (R100); every other F is unsupported (R104). -/
def decode51 (f : Nat) (m : AddrSpec) : Except DecodeError Instr :=
  match f with
  | 0 => .ok (.inc3 m)
  | 1 => .ok (.dec3 m)
  | 2 => .ok (.ent3 m)
  | 3 => .ok (.enn3 m)
  | _ => .error (.unsupported 51 f)

/-- C = 52: F selects the instruction (R100); every other F is unsupported (R104). -/
def decode52 (f : Nat) (m : AddrSpec) : Except DecodeError Instr :=
  match f with
  | 0 => .ok (.inc4 m)
  | 1 => .ok (.dec4 m)
  | 2 => .ok (.ent4 m)
  | 3 => .ok (.enn4 m)
  | _ => .error (.unsupported 52 f)

/-- C = 53: F selects the instruction (R100); every other F is unsupported (R104). -/
def decode53 (f : Nat) (m : AddrSpec) : Except DecodeError Instr :=
  match f with
  | 0 => .ok (.inc5 m)
  | 1 => .ok (.dec5 m)
  | 2 => .ok (.ent5 m)
  | 3 => .ok (.enn5 m)
  | _ => .error (.unsupported 53 f)

/-- C = 54: F selects the instruction (R100); every other F is unsupported (R104). -/
def decode54 (f : Nat) (m : AddrSpec) : Except DecodeError Instr :=
  match f with
  | 0 => .ok (.inc6 m)
  | 1 => .ok (.dec6 m)
  | 2 => .ok (.ent6 m)
  | 3 => .ok (.enn6 m)
  | _ => .error (.unsupported 54 f)

/-- C = 55: F selects the instruction (R100); every other F is unsupported (R104). -/
def decode55 (f : Nat) (m : AddrSpec) : Except DecodeError Instr :=
  match f with
  | 0 => .ok (.incx m)
  | 1 => .ok (.decx m)
  | 2 => .ok (.entx m)
  | 3 => .ok (.ennx m)
  | _ => .error (.unsupported 55 f)

/-- The instruction of opcode C and modifier F with the address part `m` (R100). -/
def decodeFields (c f : Nat) (m : AddrSpec) : Except DecodeError Instr :=
  match c with
  | 0 => .ok (.nop m f)
  | 1 => .ok (.add m f)
  | 2 => .ok (.sub m f)
  | 3 => .ok (.mul m f)
  | 4 => .ok (.div m f)
  | 5 => decodeSpecial f m
  | 6 => decodeShift f m
  | 7 => .ok (.move m f)
  | 8 => .ok (.lda m f)
  | 9 => .ok (.ld1 m f)
  | 10 => .ok (.ld2 m f)
  | 11 => .ok (.ld3 m f)
  | 12 => .ok (.ld4 m f)
  | 13 => .ok (.ld5 m f)
  | 14 => .ok (.ld6 m f)
  | 15 => .ok (.ldx m f)
  | 16 => .ok (.ldan m f)
  | 17 => .ok (.ld1n m f)
  | 18 => .ok (.ld2n m f)
  | 19 => .ok (.ld3n m f)
  | 20 => .ok (.ld4n m f)
  | 21 => .ok (.ld5n m f)
  | 22 => .ok (.ld6n m f)
  | 23 => .ok (.ldxn m f)
  | 24 => .ok (.sta m f)
  | 25 => .ok (.st1 m f)
  | 26 => .ok (.st2 m f)
  | 27 => .ok (.st3 m f)
  | 28 => .ok (.st4 m f)
  | 29 => .ok (.st5 m f)
  | 30 => .ok (.st6 m f)
  | 31 => .ok (.stx m f)
  | 32 => .ok (.stj m f)
  | 33 => .ok (.stz m f)
  | 34 => .ok (.jbus m f)
  | 35 => .ok (.ioc m f)
  | 36 => .ok (.inp m f)
  | 37 => .ok (.out m f)
  | 38 => .ok (.jred m f)
  | 39 => decodeJump f m
  | 40 => decode40 f m
  | 41 => decode41 f m
  | 42 => decode42 f m
  | 43 => decode43 f m
  | 44 => decode44 f m
  | 45 => decode45 f m
  | 46 => decode46 f m
  | 47 => decode47 f m
  | 48 => decode48 f m
  | 49 => decode49 f m
  | 50 => decode50 f m
  | 51 => decode51 f m
  | 52 => decode52 f m
  | 53 => decode53 f m
  | 54 => decode54 f m
  | 55 => decode55 f m
  | 56 => .ok (.cmpa m f)
  | 57 => .ok (.cmp1 m f)
  | 58 => .ok (.cmp2 m f)
  | 59 => .ok (.cmp3 m f)
  | 60 => .ok (.cmp4 m f)
  | 61 => .ok (.cmp5 m f)
  | 62 => .ok (.cmp6 m f)
  | 63 => .ok (.cmpx m f)
  | _ => .error (.unsupported c f)

/-- The instruction a word holds, or why it holds none (R90, R100, R104). -/
def decode (w : Word) : Except DecodeError Instr :=
  decodeFields (opcodeOf w) (modifierOf w) (addrSpecOf w)

/-! ## The encoder (R90, R112) -/

/-- The word with the fields S, AA, I, F and C. -/
def assemble (m : AddrSpec) (f c : Nat) : Word :=
  ⟨m.neg, BitVec.ofNat 30 (m.aa * 2 ^ 18 + m.idx * 2 ^ 12 + f * 2 ^ 6 + c)⟩

/-- The instruction word of an instruction (R90, R100). -/
def encode : Instr → Word
  | .nop m f => assemble m f 0
  | .add m f => assemble m f 1
  | .sub m f => assemble m f 2
  | .mul m f => assemble m f 3
  | .div m f => assemble m f 4
  | .num m => assemble m 0 5
  | .char m => assemble m 1 5
  | .hlt m => assemble m 2 5
  | .sla m => assemble m 0 6
  | .sra m => assemble m 1 6
  | .slax m => assemble m 2 6
  | .srax m => assemble m 3 6
  | .slc m => assemble m 4 6
  | .src m => assemble m 5 6
  | .move m f => assemble m f 7
  | .lda m f => assemble m f 8
  | .ld1 m f => assemble m f 9
  | .ld2 m f => assemble m f 10
  | .ld3 m f => assemble m f 11
  | .ld4 m f => assemble m f 12
  | .ld5 m f => assemble m f 13
  | .ld6 m f => assemble m f 14
  | .ldx m f => assemble m f 15
  | .ldan m f => assemble m f 16
  | .ld1n m f => assemble m f 17
  | .ld2n m f => assemble m f 18
  | .ld3n m f => assemble m f 19
  | .ld4n m f => assemble m f 20
  | .ld5n m f => assemble m f 21
  | .ld6n m f => assemble m f 22
  | .ldxn m f => assemble m f 23
  | .sta m f => assemble m f 24
  | .st1 m f => assemble m f 25
  | .st2 m f => assemble m f 26
  | .st3 m f => assemble m f 27
  | .st4 m f => assemble m f 28
  | .st5 m f => assemble m f 29
  | .st6 m f => assemble m f 30
  | .stx m f => assemble m f 31
  | .stj m f => assemble m f 32
  | .stz m f => assemble m f 33
  | .jbus m f => assemble m f 34
  | .ioc m f => assemble m f 35
  | .inp m f => assemble m f 36
  | .out m f => assemble m f 37
  | .jred m f => assemble m f 38
  | .jmp m => assemble m 0 39
  | .jsj m => assemble m 1 39
  | .jov m => assemble m 2 39
  | .jnov m => assemble m 3 39
  | .jl m => assemble m 4 39
  | .je m => assemble m 5 39
  | .jg m => assemble m 6 39
  | .jge m => assemble m 7 39
  | .jne m => assemble m 8 39
  | .jle m => assemble m 9 39
  | .jan m => assemble m 0 40
  | .jaz m => assemble m 1 40
  | .jap m => assemble m 2 40
  | .jann m => assemble m 3 40
  | .janz m => assemble m 4 40
  | .janp m => assemble m 5 40
  | .j1n m => assemble m 0 41
  | .j1z m => assemble m 1 41
  | .j1p m => assemble m 2 41
  | .j1nn m => assemble m 3 41
  | .j1nz m => assemble m 4 41
  | .j1np m => assemble m 5 41
  | .j2n m => assemble m 0 42
  | .j2z m => assemble m 1 42
  | .j2p m => assemble m 2 42
  | .j2nn m => assemble m 3 42
  | .j2nz m => assemble m 4 42
  | .j2np m => assemble m 5 42
  | .j3n m => assemble m 0 43
  | .j3z m => assemble m 1 43
  | .j3p m => assemble m 2 43
  | .j3nn m => assemble m 3 43
  | .j3nz m => assemble m 4 43
  | .j3np m => assemble m 5 43
  | .j4n m => assemble m 0 44
  | .j4z m => assemble m 1 44
  | .j4p m => assemble m 2 44
  | .j4nn m => assemble m 3 44
  | .j4nz m => assemble m 4 44
  | .j4np m => assemble m 5 44
  | .j5n m => assemble m 0 45
  | .j5z m => assemble m 1 45
  | .j5p m => assemble m 2 45
  | .j5nn m => assemble m 3 45
  | .j5nz m => assemble m 4 45
  | .j5np m => assemble m 5 45
  | .j6n m => assemble m 0 46
  | .j6z m => assemble m 1 46
  | .j6p m => assemble m 2 46
  | .j6nn m => assemble m 3 46
  | .j6nz m => assemble m 4 46
  | .j6np m => assemble m 5 46
  | .jxn m => assemble m 0 47
  | .jxz m => assemble m 1 47
  | .jxp m => assemble m 2 47
  | .jxnn m => assemble m 3 47
  | .jxnz m => assemble m 4 47
  | .jxnp m => assemble m 5 47
  | .inca m => assemble m 0 48
  | .deca m => assemble m 1 48
  | .enta m => assemble m 2 48
  | .enna m => assemble m 3 48
  | .inc1 m => assemble m 0 49
  | .dec1 m => assemble m 1 49
  | .ent1 m => assemble m 2 49
  | .enn1 m => assemble m 3 49
  | .inc2 m => assemble m 0 50
  | .dec2 m => assemble m 1 50
  | .ent2 m => assemble m 2 50
  | .enn2 m => assemble m 3 50
  | .inc3 m => assemble m 0 51
  | .dec3 m => assemble m 1 51
  | .ent3 m => assemble m 2 51
  | .enn3 m => assemble m 3 51
  | .inc4 m => assemble m 0 52
  | .dec4 m => assemble m 1 52
  | .ent4 m => assemble m 2 52
  | .enn4 m => assemble m 3 52
  | .inc5 m => assemble m 0 53
  | .dec5 m => assemble m 1 53
  | .ent5 m => assemble m 2 53
  | .enn5 m => assemble m 3 53
  | .inc6 m => assemble m 0 54
  | .dec6 m => assemble m 1 54
  | .ent6 m => assemble m 2 54
  | .enn6 m => assemble m 3 54
  | .incx m => assemble m 0 55
  | .decx m => assemble m 1 55
  | .entx m => assemble m 2 55
  | .ennx m => assemble m 3 55
  | .cmpa m f => assemble m f 56
  | .cmp1 m f => assemble m f 57
  | .cmp2 m f => assemble m f 58
  | .cmp3 m f => assemble m f 59
  | .cmp4 m f => assemble m f 60
  | .cmp5 m f => assemble m f 61
  | .cmp6 m f => assemble m f 62
  | .cmpx m f => assemble m f 63

/-! ## The word of an opcode-table row -/

/-- The word whose container has the bits of `w`, those from bit `nbits` up being 0. An instruction of this hardware is
one word (R90). -/
def tableWord (nbits w : Nat) : Word :=
  Word.ofContainer (BitVec.ofNat 32 (w % 2 ^ nbits))

/-- The instruction the decoder reads from a word numbered as spec/opcode_table.json numbers it. -/
def decodeTableWord (nbits w : Nat) : Option Instr :=
  match decode (tableWord nbits w) with
  | .ok i => some i
  | .error _ => none

end Sys2Proof
end

