-- ==== Sys2Proof/Machine/Arith.lean ====
section
/-! DEFINITION. The primitive functions on words (00_scope.md R9). -/

namespace Sys2Proof

/-- `word(s, m)`: the word with sign `s` and magnitude `m mod 2^30`. -/
def word (neg : Bool) (m : Nat) : Word := ⟨neg, BitVec.ofNat 30 m⟩

/-- The magnitude as a number. -/
def Word.magnitude (w : Word) : Nat := w.mag.toNat

/-- `val(w)`: the integer a word stands for; both zeros stand for 0. -/
def Word.val (w : Word) : Int :=
  if w.neg then -(w.magnitude : Int) else (w.magnitude : Int)

/-- `byte(w, k)` for k in 1..5; byte 1 is the most significant (R8). -/
def Word.byte (w : Word) (k : Nat) : Nat := w.magnitude / 64 ^ (5 - k) % 64

/-- `neg(w)`: the sign bit flipped, also of zero. -/
def Word.negate (w : Word) : Word := ⟨!w.neg, w.mag⟩

/-- The word of `enc(v)`: sign of `v` (`+` for 0), magnitude `|v| mod 2^30`. -/
def encode30 (v : Int) : Word := word (decide (v < 0)) v.natAbs

/-- The overflow of `enc(v)`: the true magnitude exceeds 2^30-1. -/
def overflows (v : Int) : Bool := decide (2 ^ 30 - 1 < v.natAbs)

/-- The five bytes of a word, byte 1 first. -/
def Word.bytes (w : Word) : List Nat := [w.byte 1, w.byte 2, w.byte 3, w.byte 4, w.byte 5]

/-- The number whose base-64 digits are `bs`, the most significant first. -/
def ofBytes (bs : List Nat) : Nat := bs.foldl (fun n b => 64 * n + b) 0

end Sys2Proof
end

