-- ==== Sys2Proof/Config.lean ====
section
/-! DEFINITION. What the spec leaves open as a parameter of the hardware at reset (00_scope.md R7): a constant with no body,
about which nothing can be proved but what holds of every value. The open part of `CycleCost`, a function of the state, is
declared beside its use in Machine/Timing.lean. -/

namespace Sys2Proof

/-- `RESET_RUN_STATE` (R7, R48): whether the core is RUNNING right after `initialize`; if not, it is in HALT (log entry 4). -/
opaque Config.resetRunning : Bool

end Sys2Proof
end

