-- ==== Sys2Proof/Machine/State.lean ====
section
/-! DEFINITION. Everything the spec gives the machine (10_state.md), the inputs that reach it and the outputs that leave it
(10_state.md R50 to R56), why a step can stop, and the machine right after reset (R48). -/

namespace Sys2Proof.Machine

/-- The register file of R24: rA, rI[1] to rI[6] and rX, each a full word (R20 to R22). -/
structure RegFile where
  rA : Word
  rI1 : Word
  rI2 : Word
  rI3 : Word
  rI4 : Word
  rI5 : Word
  rI6 : Word
  rX : Word
deriving DecidableEq, Repr

/-- The comparison indicator's values (R29). -/
inductive Comparison where
  | less
  | equal
  | greater
deriving DecidableEq, Repr

/-- The run state (R31). -/
inductive RunState where
  /-- `RUNNING`. -/
  | running
  /-- `HALT`. -/
  | halt
  /-- `WAIT_DEVICE(d)`. -/
  | waitDevice (d : Device)
  /-- `BOOT_READ(0)`. -/
  | bootRead0
  /-- `BOOT_READ(1)`. -/
  | bootRead1
deriving DecidableEq, Repr

/-- The direction of a transfer (R40): IN is device to memory, OUT is memory to device. -/
inductive Direction where
  | input
  | output
deriving DecidableEq, Repr

/-- An I/O operation descriptor (R40): the record of one transfer in flight. -/
inductive Desc where
  /-- `WordDesc`: `remain` words still to move, at the cursor `addr`. -/
  | words (dir : Direction) (remain : Nat) (addr : Addr)
  /-- `CharDesc`: `remain` characters still to move, at character position `pos` (0 is byte 1) of the word at `addr`, with
  the byte-shift buffer `buf`. -/
  | chars (dir : Direction) (remain : Nat) (addr : Addr) (pos : Fin 5) (buf : Word)
deriving DecidableEq, Repr

/-- The warning causes W1 to W8 (60_exceptions.md R431). -/
inductive Warning where
  /-- Malformed field specifier. -/
  | w1
  /-- Index field I above 6. -/
  | w2
  /-- Address outside 0..3999. -/
  | w3
  /-- Device id F above 20. -/
  | w4
  /-- Unsupported sub-operation. -/
  | w5
  /-- Negative count. -/
  | w6
  /-- Negative destination in MOVE. -/
  | w7
  /-- Unsupported device and control combination. -/
  | w8
deriving DecidableEq, Repr

/-- The device control operations of R53. -/
inductive ControlOp where
  | skipToNextPage
  | rewind (tape : Device)
  | skipBackward (tape : Device) (wordCount : Nat)
  | skipForward (tape : Device) (wordCount : Nat)
deriving DecidableEq, Repr

/-- What leaves the core on its ports (R50 to R56): one entry of the trace (log entry 14). -/
inductive Event where
  /-- `warning` (R55). -/
  | warning (w : Warning)
  /-- One `busy(d)` query and the environment's answer (R51). -/
  | busyQuery (d : Device) (answer : Bool)
  /-- `begin_word_io(d, desc, direction)` (R52); the descriptor carries its direction. -/
  | beginWordIO (d : Device) (desc : Desc)
  /-- `begin_char_io(d, desc, direction)` (R52). -/
  | beginCharIO (d : Device) (desc : Desc)
  /-- `device_control` (R53). -/
  | deviceControl (op : ControlOp)
  /-- `notify_waiting(d, waiting)` (R54). -/
  | notifyWaiting (d : Device) (waiting : Bool)
  /-- The containers `read_words` delivered (R383). -/
  | wordsDelivered (d : Device) (data : List (BitVec 32))
  /-- The character codes `read_chars` delivered (R384). -/
  | charsDelivered (d : Device) (codes : List Nat)
  /-- The new remaining count an adapter call returned (R380). -/
  | adapterReturned (d : Device) (remain : Nat)
  /-- One `check_signals` poll and whether it answered `stop` (R55, R411). -/
  | signalsChecked (stop : Bool)
  /-- The result `(cycles, halted)` of a run transaction (R410). -/
  | runReturned (cycles : Nat) (halted : Bool)
deriving DecidableEq, Repr

/-- A call of a stream adapter by the device side (R56, R380). The count of a write is the length of its list (log
entry 20). -/
inductive AdapterCall where
  /-- `read_words(desc, n)` (R383). -/
  | readWords (n : Nat)
  /-- `read_chars(desc, n)` (R384). -/
  | readChars (n : Nat)
  /-- `write_words(desc, data, n)` (R386): containers. -/
  | writeWords (data : List (BitVec 32))
  /-- `write_chars(desc, chars, n)` (R385): character codes. -/
  | writeChars (codes : List Nat)
deriving DecidableEq, Repr

/-- Whose move it is, and what the move is: the core's, the device side's (R71) or the host's (R50). -/
inductive Turn where
  /-- The core takes one step (R400). -/
  | core
  /-- The device side calls an adapter on `desc[d]` (R380). -/
  | adapter (d : Device) (call : AdapterCall)
  /-- From now on the environment answers `busy(d)` with `b` (R51). -/
  | setBusy (d : Device) (b : Bool)
  /-- From now on `check_signals`, where it is provided, answers `stop` exactly if `stop` (R411). -/
  | setSignals (stop : Bool)
  /-- The host's `initialize` (R48, R460). -/
  | hostReset
  /-- The host's `boot` request (R408). -/
  | hostBoot
  /-- The host's `run(budget)` (R410). -/
  | hostRun (budget : Nat)
deriving DecidableEq, Repr

/-- The memory: the words that are not `+0`, as (address, word) cells with strictly rising addresses. An unlisted address
reads as `+0`, the reset contents of R48 (log entries 1 and 2). -/
abbrev Memory := List (Nat × Word)

/-- The state of the machine. The fields down to `desc` are the architectural state of 10_state.md; the last six are the
model's own (log entries 6, 7, 9, 10, 14, 18). -/
structure State where
  /-- rA, rI[1..6], rX (R20 to R22, R24). -/
  regs : RegFile
  /-- rJ, 12 bits unsigned (R23). -/
  rJ : BitVec 12
  /-- The program counter (R25). -/
  pc : Addr
  /-- The shadow of the previous pc (R26). -/
  ppc : Addr
  /-- The instruction register (R27). -/
  ir : Word
  /-- The overflow latch (R28). -/
  ov : Bool
  /-- The comparison indicator (R29). -/
  ci : Comparison
  /-- The run state (R31). -/
  rs : RunState
  /-- The waiting-notification latch (R32). -/
  wn : Bool
  /-- The cycle accumulator (R33). -/
  cyc : Nat
  /-- The memory (R35). -/
  mem : Memory
  /-- The descriptor slots desc[0..20] (R41). -/
  desc : Vector Desc 21
  /-- What the environment would answer now to `busy(d)` (R51). -/
  busy : Vector Bool 21
  /-- `none`: no `check_signals` is provided; else whether it would answer `stop` now (R55, R411). -/
  signals : Option Bool
  /-- The budget of the run transaction in progress (R410); `none` outside one (R414). -/
  runBudget : Option Nat
  /-- The turns still to come; when the list is empty the core moves (log entry 6). -/
  sched : List Turn
  /-- What has left the core on its ports, oldest first. -/
  trace : List Event
  /-- How many instructions have been executed: it makes each free cycle cost a fresh one (log entry 9). -/
  costTick : Nat
deriving DecidableEq, Repr

/-- Why a step can stop with a fault: never. "This hardware has no exceptions, no traps and no interrupts" (R430): the
type has no constructor, so no step of any state can fault. -/
inductive Fault where
deriving DecidableEq, Repr

/-- Why a step can be refused. -/
inductive Refusal where
  /-- Raised by `exec` for an instruction that has no meaning yet, named as spec/opcode_table.json names it. Safe: the run
  stops. -/
  | notModelled (mnemonic : String)
  /-- Raised by a device turn whose adapter call moves at least one unit in another mode or direction than the one
  `desc[d]` was created with: the environment breaks assumption E2 of R392, and the spec gives the call no effect (log
  entry 12). Safe: the run stops. -/
  | adapterContract (d : Device)
  /-- Raised by a host turn that begins a run transaction while one is in progress: R410's `run` is one call of the host,
  and the spec gives a nested one no effect (log entry 13). Safe: the run stops. -/
  | nestedRun
deriving DecidableEq, Repr

/-- All registers `+0` (R48). -/
def RegFile.reset : RegFile :=
  ⟨Word.plusZero, Word.plusZero, Word.plusZero, Word.plusZero, Word.plusZero, Word.plusZero, Word.plusZero, Word.plusZero⟩

/-- The idle descriptors of R48: remain 0, addr 0, pos 0, buf `+0`, 16 word slots and 5 character slots (R41). Their
direction is the model's choice (log entry 5). -/
def resetDescs : Vector Desc 21 :=
  Vector.ofFn fun d : Fin 21 =>
    if d.val < 16 then Desc.words .input 0 0 else Desc.chars .input 0 0 0 Word.plusZero

/-- The machine right after `initialize` (R48, R460). The last six fields are the model's own, and their values here are
its choices: every device free (log entry 7), a `check_signals` that does not stop (18), no run transaction (10), an empty
schedule, so that only the core moves until turns are put there (6), nothing put out yet (14), and no instruction executed
(9). -/
def State.reset : State where
  regs := RegFile.reset
  rJ := 0#12
  pc := 0
  ppc := 0
  ir := Word.plusZero
  ov := false
  ci := .equal
  rs := if Config.resetRunning then .running else .halt
  wn := false
  cyc := 0
  mem := []
  desc := resetDescs
  busy := Vector.replicate 21 false
  signals := some false
  runBudget := none
  sched := []
  trace := []
  costTick := 0

end Sys2Proof.Machine
end

