-- ==== Sys2Proof/Machine/Ops.lean ====
section
/-! DEFINITION. The named operations over registers, memory and ports. This hardware takes no exceptions (60_exceptions.md
R430); what stands in their place, the warning and the device-busy rollback (46_io.md R352), are `warnAll` and
`waitForDevice` below. -/

namespace Sys2Proof.Machine

/-! ## Registers (10_state.md R24) -/

/-- `x[k]`: a register of the file by its number. -/
def RegFile.get (r : RegFile) : Reg → Word
  | .a => r.rA
  | .i1 => r.rI1
  | .i2 => r.rI2
  | .i3 => r.rI3
  | .i4 => r.rI4
  | .i5 => r.rI5
  | .i6 => r.rI6
  | .x => r.rX

/-- `x[k] <- w`. -/
def RegFile.set (r : RegFile) (k : Reg) (w : Word) : RegFile :=
  match k with
  | .a => { r with rA := w }
  | .i1 => { r with rI1 := w }
  | .i2 => { r with rI2 := w }
  | .i3 => { r with rI3 := w }
  | .i4 => { r with rI4 := w }
  | .i5 => { r with rI5 := w }
  | .i6 => { r with rI6 := w }
  | .x => { r with rX := w }

/-- Read register k. -/
def State.reg (s : State) (k : Reg) : Word := s.regs.get k

/-- Write register k. -/
def State.setReg (s : State) (k : Reg) (w : Word) : State := { s with regs := s.regs.set k w }

/-- Write the overflow latch (R28). -/
def State.setOV (s : State) (b : Bool) : State := { s with ov := b }

/-- Write the comparison indicator (R29). -/
def State.setCI (s : State) (c : Comparison) : State := { s with ci := c }

/-- rJ as the word STJ sees: sign `+`, bytes 1 to 3 zero (R23). -/
def State.rJWord (s : State) : Word := word false s.rJ.toNat

/-! ## Memory (20_memory.md R60, R66) -/

/-- `MemRead(a, 1)` on the cells. -/
def Memory.read : Memory → Nat → Word
  | [], _ => Word.plusZero
  | (b, w) :: m, a => if a = b then w else Memory.read m a

/-- `MemWrite(a, 1, w)` on the cells; keeps them in canonical form. -/
def Memory.write : Memory → Nat → Word → Memory
  | [], a, w => if w = Word.plusZero then [] else [(a, w)]
  | (b, v) :: m, a, w =>
    if a < b then (if w = Word.plusZero then (b, v) :: m else (a, w) :: (b, v) :: m)
    else if a = b then (if w = Word.plusZero then m else (a, w) :: m)
    else (b, v) :: Memory.write m a w

/-- The canonical form from address `lo` on: addresses rise strictly and stay below 4000, and no cell holds `+0`. -/
def Memory.wfFrom (lo : Nat) : Memory → Bool
  | [] => true
  | (a, w) :: m => decide (lo ≤ a) && decide (a < 4000) && decide (w ≠ Word.plusZero) && Memory.wfFrom (a + 1) m

/-- The memory is in canonical form (log entry 1). -/
def Memory.wf (m : Memory) : Bool := Memory.wfFrom 0 m

/-- `MemRead(a, 1)`. -/
def State.readMem (s : State) (a : Addr) : Word := Memory.read s.mem a.val

/-- `MemWrite(a, 1, w)`. -/
def State.writeMem (s : State) (a : Addr) (w : Word) : State := { s with mem := Memory.write s.mem a.val w }

/-- The next address, 0 after 3999 (R65). -/
def Addr.next (a : Addr) : Addr := ⟨(a.val + 1) % 4000, Nat.mod_lt _ (by decide)⟩

/-! ## Outputs (10_state.md R51 to R55) -/

/-- Put one event out. -/
def State.emit (s : State) (e : Event) : State := { s with trace := s.trace ++ [e] }

/-- `warn(W)` for each cause of the list, in order (00_scope.md R10, 60_exceptions.md R432): changes nothing but the
trace. -/
def State.warnAll (s : State) (ws : List Warning) : State := { s with trace := s.trace ++ ws.map Event.warning }

/-- What `busy(d)` answers now. -/
def State.isBusy (s : State) (d : Device) : Bool := s.busy[d.val]

/-- The state after one `busy(d)` query: the query and its answer are in the trace (R51, R372). -/
def State.query (s : State) (d : Device) : State := s.emit (.busyQuery d (s.isBusy d))

/-! ## Control flow (42_compare_branch.md R240) -/

/-- `JumpNoSave(t)`. -/
def State.jumpNoSave (s : State) (t : Addr) : State := { s with pc := t }

/-- `Jump(t)`: rJ takes the already advanced pc. -/
def State.jump (s : State) (t : Addr) : State := { s with rJ := BitVec.ofNat 12 s.pc.val, pc := t }

/-- `Jump(t)` if `c`, else fall through. -/
def State.jumpIf (s : State) (c : Bool) (t : Addr) : State := if c then s.jump t else s

/-! ## Devices (46_io.md) -/

/-- The device an F names: ids 0..20 are valid (R94, R351). -/
def deviceOf (f : Nat) : Option Device := if h : f < 21 then some ⟨f, h⟩ else none

/-- The device-busy rollback (R352): pc goes back to the instruction, the core waits for `d`, and the environment is
told. -/
def State.waitForDevice (s : State) (d : Device) : State :=
  { s with pc := s.ppc, rs := .waitDevice d, wn := true, trace := s.trace ++ [.notifyWaiting d true] }

/-- `desc[d] <- e` (R41). -/
def State.setDesc (s : State) (d : Device) (e : Desc) : State := { s with desc := s.desc.set d.val e }

/-- The word-block size and the character-block sizes of R350, R6 `BLOCK_WORDS`, `BLOCK_CHARS`. -/
def blockUnits (d : Device) : Nat :=
  if d.val < 16 then 100
  else if d.val < 18 then 80
  else if d.val = 18 then 120
  else 70

/-- The descriptor of a new transfer on `d` at `a` (R353). -/
def newDesc (d : Device) (dir : Direction) (a : Addr) : Desc :=
  if d.val < 16 then .words dir (blockUnits d) a else .chars dir (blockUnits d) a 0 Word.plusZero

/-- `begin_word_io` or `begin_char_io`, by the device's mode (R353). -/
def beginEvent (d : Device) (e : Desc) : Event :=
  if d.val < 16 then .beginWordIO d e else .beginCharIO d e

/-- Build the descriptor of a new transfer and hand it over (R353). -/
def State.beginIO (s : State) (d : Device) (dir : Direction) (a : Addr) : State :=
  (s.setDesc d (newDesc d dir a)).emit (beginEvent d (newDesc d dir a))

/-- The card reader, device 16 (R350, R406). -/
def cardReader : Device := 16

/-- The line printer, device 18 (R350). -/
def printer : Device := 18

end Sys2Proof.Machine
end

