-- ==== Sys2Proof/Machine/Adapter.lean ====
section
/-! DEFINITION. The stream adapters: the device side of memory (46_io.md R380 to R388). -/

namespace Sys2Proof.Machine

/-- Words still to move, or characters still to move. -/
def Desc.remain : Desc → Nat
  | .words _ n _ => n
  | .chars _ n _ _ _ => n

/-- The direction of a descriptor. -/
def Desc.direction : Desc → Direction
  | .words d _ _ => d
  | .chars d _ _ _ _ => d

/-- `desc[d]`. -/
def State.descOf (s : State) (d : Device) : Desc := s.desc[d.val]

/-- `k` words out of memory, and the cursor after them (R383). -/
def readWordsFrom (mem : Memory) (a : Addr) : Nat → List (BitVec 32) × Addr
  | 0 => ([], a)
  | k + 1 =>
    let rest := readWordsFrom mem (Addr.next a) k
    ((Memory.read mem a.val).toContainer :: rest.1, rest.2)

/-- The given words into memory, bit 30 of each container cleared, and the cursor after them (R386). -/
def writeWordsTo (mem : Memory) (a : Addr) : List (BitVec 32) → Memory × Addr
  | [] => (mem, a)
  | c :: cs => writeWordsTo (Memory.write mem a.val (Word.ofContainer c)) (Addr.next a) cs

/-- The cursors of a character transfer: address, position, buffer (R40). -/
structure CharCursor where
  addr : Addr
  pos : Fin 5
  buf : Word
deriving DecidableEq, Repr

/-- The cursors after one more character: the position advances, and after position 4 the address does (R384, R385). -/
def CharCursor.step (c : CharCursor) (buf : Word) : CharCursor :=
  if h : c.pos.val + 1 < 5 then ⟨c.addr, ⟨c.pos.val + 1, h⟩, buf⟩ else ⟨Addr.next c.addr, 0, buf⟩

/-- The buffer `read_chars` delivers from: the word is read from memory at position 0 only (R384). -/
def CharCursor.load (mem : Memory) (c : CharCursor) : Word :=
  if c.pos.val = 0 then Memory.read mem c.addr.val else c.buf

/-- `k` character codes out of memory, and the cursors after them (R384). -/
def readCharsFrom (mem : Memory) (c : CharCursor) : Nat → List Nat × CharCursor
  | 0 => ([], c)
  | k + 1 =>
    let rest := readCharsFrom mem (c.step (c.load mem)) k
    ((c.load mem).byte (c.pos.val + 1) :: rest.1, rest.2)

/-- The buffer with one more character, taken mod 64, shifted in (R385). -/
def shiftIn (buf : Word) (code : Nat) : Word := word false (buf.magnitude * 64 + code % 64)

/-- One character into memory: the word is written when its fifth character arrives, with sign `+` (R385). -/
def writeChar (mem : Memory) (c : CharCursor) (code : Nat) : Memory × CharCursor :=
  if c.pos.val = 4 then (Memory.write mem c.addr.val (shiftIn c.buf code), c.step Word.plusZero)
  else (mem, c.step (shiftIn c.buf code))

/-- The given characters into memory, and the cursors after them (R385). -/
def writeCharsTo (mem : Memory) (c : CharCursor) : List Nat → Memory × CharCursor
  | [] => (mem, c)
  | x :: xs => writeCharsTo (writeChar mem c x).1 (writeChar mem c x).2 xs

/-- The count of an adapter call (R380). -/
def AdapterCall.count : AdapterCall → Nat
  | .readWords n => n
  | .readChars n => n
  | .writeWords ws => ws.length
  | .writeChars cs => cs.length

/-- The units an adapter call moves: the lesser of its count and the remaining count (R380). -/
def State.adapterUnits (s : State) (d : Device) (c : AdapterCall) : Nat := min c.count (s.descOf d).remain

/-- An adapter call on `desc[d]` (R380, R383 to R386). A call that moves nothing changes nothing and returns the remaining
count, whatever its mode; a call that moves units in another mode or direction than the descriptor's breaks E2 of R392 and
is refused (log entry 12). -/
def adapterStep (d : Device) (call : AdapterCall) (s : State) : Host.Outcome State Fault Refusal :=
  let k := s.adapterUnits d call
  if k = 0 then .next (s.emit (.adapterReturned d (s.descOf d).remain))
  else
    match call, s.descOf d with
    | .readWords _, .words .output n a =>
      let r := readWordsFrom s.mem a k
      .next (((s.setDesc d (.words .output (n - k) r.2)).emit (.wordsDelivered d r.1)).emit (.adapterReturned d (n - k)))
    | .readChars _, .chars .output n a p b =>
      let r := readCharsFrom s.mem ⟨a, p, b⟩ k
      .next (((s.setDesc d (.chars .output (n - k) r.2.addr r.2.pos r.2.buf)).emit (.charsDelivered d r.1)).emit
        (.adapterReturned d (n - k)))
    | .writeWords ws, .words .input n a =>
      let r := writeWordsTo s.mem a (ws.take k)
      .next (({ s with mem := r.1 }.setDesc d (.words .input (n - k) r.2)).emit (.adapterReturned d (n - k)))
    | .writeChars cs, .chars .input n a p b =>
      let r := writeCharsTo s.mem ⟨a, p, b⟩ (cs.take k)
      .next (({ s with mem := r.1 }.setDesc d (.chars .input (n - k) r.2.addr r.2.pos r.2.buf)).emit
        (.adapterReturned d (n - k)))
    | _, _ => .refused (.adapterContract d)

end Sys2Proof.Machine
end

