-- ==== Sys2Proof/Machine/Operands.lean ====
section
/-! DEFINITION. Every operand form: field specifiers, field access and address resolution (40_field_loadstore.md R120 to
R126), and the warnings each evaluation gives (60_exceptions.md R431, R432). -/

namespace Sys2Proof.Machine

/-! ## Field specifiers (R122) -/

/-- A field (L:R). -/
structure FieldSpec where
  l : Nat
  r : Nat
deriving DecidableEq, Repr

/-- F = 8L + R is malformed: L > R, or either above 5 (R93, R122). -/
def fieldBad (f : Nat) : Bool :=
  decide (f % 8 < f / 8) || decide (5 < f / 8) || decide (5 < f % 8)

/-- `FSpec(F)`: the field F names, (0:5) where it is malformed. -/
def fieldSpec (f : Nat) : FieldSpec := if fieldBad f then ⟨0, 5⟩ else ⟨f / 8, f % 8⟩

/-- W1 where F is malformed. -/
def fieldWarnings (f : Nat) : List Warning := if fieldBad f then [.w1] else []

/-- The first magnitude byte of a field, `max(L, 1)` (R120). -/
def FieldSpec.first (p : FieldSpec) : Nat := max p.l 1

/-- How many bytes a field with R at least 1 has (R120). -/
def FieldSpec.size (p : FieldSpec) : Nat := p.r - p.first + 1

/-- `FieldLoad(w, L, R)` (R120). -/
def fieldLoad (w : Word) (p : FieldSpec) : Word :=
  if p.r = 0 then Word.plusZero
  else word (decide (p.l = 0) && w.neg) (w.magnitude / 64 ^ (5 - p.r) % 64 ^ p.size)

/-- `FieldStore(w, L, R, v)`: the old word `w` with the field replaced by the rightmost bytes of `v` (R121). -/
def fieldStore (w : Word) (p : FieldSpec) (v : Word) : Word :=
  let s := if p.l = 0 then v.neg else w.neg
  if p.r = 0 then word s w.magnitude
  else
    let unit := 64 ^ (5 - p.r)
    let span := 64 ^ p.size
    word s (w.magnitude - w.magnitude / unit % span * unit + v.magnitude % span * unit)

/-! ## Address resolution (R123 to R125) -/

/-- The address part as an integer, `addr(IR)` (30_encoding.md R91). -/
def addrValue (m : AddrSpec) : Int := if m.neg then -(m.aa : Int) else (m.aa : Int)

/-- The index register an I selects: none for 0, rI[6] for 6 and for every larger number (R92, R123). -/
def indexReg (i : Nat) : Option Reg :=
  match i with
  | 0 => none
  | 1 => some .i1
  | 2 => some .i2
  | 3 => some .i3
  | 4 => some .i4
  | 5 => some .i5
  | _ => some .i6

/-- The signed value the index specification adds (R123). -/
def State.indexValue (s : State) (i : Nat) : Int :=
  match indexReg i with
  | none => 0
  | some k => (s.reg k).val

/-- `M_raw(IR)`: the unclamped effective address (R123, R125). -/
def State.mRaw (s : State) (m : AddrSpec) : Int := addrValue m + s.indexValue m.idx

/-- An address the memory has (R64). -/
def inRange (a : Int) : Bool := decide (0 ≤ a) && decide (a ≤ 3999)

/-- The address itself where memory has it, else 3999 (R64, R124). -/
def clampAddr (a : Int) : Addr :=
  if h : 0 ≤ a ∧ a ≤ 3999 then ⟨a.toNat, by omega⟩ else ⟨3999, by decide⟩

/-- `M_addr(IR)`: the clamped effective address (R124). -/
def State.mAddr (s : State) (m : AddrSpec) : Addr := clampAddr (s.mRaw m)

/-- W2 where I is above 6 (R123). -/
def indexWarnings (m : AddrSpec) : List Warning := if 6 < m.idx then [.w2] else []

/-- W2 and W3 of evaluating `M_addr` (R123, R124). -/
def State.addrWarnings (s : State) (m : AddrSpec) : List Warning :=
  indexWarnings m ++ (if inRange (s.mRaw m) then [] else [.w3])

/-! ## The operand of the memory instructions (R126) -/

/-- `V = FieldLoad(MemRead(M_addr(IR), 1), L, R)`. -/
def State.operand (s : State) (m : AddrSpec) (f : Nat) : Word := fieldLoad (s.readMem (s.mAddr m)) (fieldSpec f)

/-- W1, W2, W3 of evaluating the field and the address, in that order (R432). -/
def State.operandWarnings (s : State) (m : AddrSpec) (f : Nat) : List Warning :=
  fieldWarnings f ++ s.addrWarnings m

end Sys2Proof.Machine
end

