-- ==== Sys2Proof/Machine/Flags.lean ====
section
/-! DEFINITION. The two flags: what sets OV (41_alu.md R171) and what CI becomes (42_compare_branch.md R230). -/

namespace Sys2Proof.Machine

/-- OV after an addition whose exact result is `v`: set on overflow, never cleared (R171). -/
def State.noteOverflow (s : State) (v : Int) : State := s.setOV (s.ov || overflows v)

/-- The order of two integers as a comparison indicator. -/
def compareInts (x y : Int) : Comparison :=
  if x < y then .less else if x = y then .equal else .greater

/-- `Compare(a, w, L, R)` (R230). -/
def compareFields (a w : Word) (p : FieldSpec) : Comparison :=
  if p.r = 0 then .equal else compareInts (fieldLoad a p).val (fieldLoad w p).val

end Sys2Proof.Machine
end

