-- ==== Sys2Proof/Machine/Alu.lean ====
section
/-! DEFINITION. Add, subtract, multiply, divide, and the register modifications (41_alu.md). -/

namespace Sys2Proof.Machine

/-- `x[k] <- AddTo(x[k], d)` (R171): the exact sum re-encoded, and OV set if it overflows. -/
def State.addTo (s : State) (k : Reg) (d : Int) : State :=
  (s.noteOverflow ((s.reg k).val + d)).setReg k (encode30 ((s.reg k).val + d))

/-- The product of rA and `v` in rA:rX (R174): both halves have the product's sign, `+` for a zero product. -/
def State.multiply (s : State) (v : Word) : State :=
  let p := (s.reg .a).val * v.val
  let neg := decide (p < 0)
  (s.setReg .a (word neg (p.natAbs / 2 ^ 30))).setReg .x (word neg (p.natAbs % 2 ^ 30))

/-- The quotient and the remainder of rA:rX by `v` (R175); where the divisor is zero or the quotient does not fit, OV is
set and rA and rX stay (R176). -/
def State.divide (s : State) (v : Word) : State :=
  let d := v.magnitude
  if d = 0 ∨ d ≤ (s.reg .a).magnitude then s.setOV true
  else
    let n := (s.reg .a).magnitude * 2 ^ 30 + (s.reg .x).magnitude
    let sa := (s.reg .a).neg
    (s.setReg .a (word (sa ^^ v.neg) (n / d))).setReg .x (word sa (n % d))

/-- The increment template (R178): `d` is M for INC and -M for DEC; M is not clamped. -/
def State.modify (s : State) (k : Reg) (m : AddrSpec) (d : Int) : State :=
  (s.warnAll (indexWarnings m)).addTo k d

/-- The word ENT enters (R179): M, and where M is 0 a zero with the instruction's own sign. -/
def enterWord (m : AddrSpec) (v : Int) : Word :=
  if v = 0 then word m.neg 0 else word (decide (v < 0)) v.natAbs

/-- The word ENN enters (R179): -M, and where M is 0 a zero with the complement of the instruction's own sign. -/
def enterNegWord (m : AddrSpec) (v : Int) : Word :=
  if v = 0 then word (!m.neg) 0 else word (decide (0 < v)) v.natAbs

/-- The enter template (R179): the register is replaced, OV untouched. -/
def State.enter (s : State) (k : Reg) (m : AddrSpec) (w : Word) : State :=
  (s.warnAll (indexWarnings m)).setReg k w

/-- ADD (R172): `rA <- AddTo(rA, val(V))`. -/
def execAdd (m : AddrSpec) (f : Nat) (s : State) : Host.Outcome State Fault Refusal :=
  .next ((s.warnAll (s.operandWarnings m f)).addTo .a (s.operand m f).val)

/-- SUB (R173): `rA <- AddTo(rA, -val(V))`. -/
def execSub (m : AddrSpec) (f : Nat) (s : State) : Host.Outcome State Fault Refusal :=
  .next ((s.warnAll (s.operandWarnings m f)).addTo .a (-(s.operand m f).val))

/-- MUL (R174): rA:rX takes the product of rA and V. -/
def execMul (m : AddrSpec) (f : Nat) (s : State) : Host.Outcome State Fault Refusal :=
  .next ((s.warnAll (s.operandWarnings m f)).multiply (s.operand m f))

/-- DIV (R175): rA takes the quotient of rA:rX by V, rX the remainder. -/
def execDiv (m : AddrSpec) (f : Nat) (s : State) : Host.Outcome State Fault Refusal :=
  .next ((s.warnAll (s.operandWarnings m f)).divide (s.operand m f))

/-- INCA (R184): `rA <- AddTo(rA, M)`. -/
def execInca (m : AddrSpec) (s : State) : Host.Outcome State Fault Refusal :=
  .next (s.modify .a m (s.mRaw m))

/-- DECA (R185): `rA <- AddTo(rA, -M)`. -/
def execDeca (m : AddrSpec) (s : State) : Host.Outcome State Fault Refusal :=
  .next (s.modify .a m (-s.mRaw m))

/-- ENTA (R186): `rA <- M`. -/
def execEnta (m : AddrSpec) (s : State) : Host.Outcome State Fault Refusal :=
  .next (s.enter .a m (enterWord m (s.mRaw m)))

/-- ENNA (R187): `rA <- -M`. -/
def execEnna (m : AddrSpec) (s : State) : Host.Outcome State Fault Refusal :=
  .next (s.enter .a m (enterNegWord m (s.mRaw m)))

/-- INC1 (R188): `rI[1] <- AddTo(rI[1], M)`. -/
def execInc1 (m : AddrSpec) (s : State) : Host.Outcome State Fault Refusal :=
  .next (s.modify .i1 m (s.mRaw m))

/-- DEC1 (R189): `rI[1] <- AddTo(rI[1], -M)`. -/
def execDec1 (m : AddrSpec) (s : State) : Host.Outcome State Fault Refusal :=
  .next (s.modify .i1 m (-s.mRaw m))

/-- ENT1 (R190): `rI[1] <- M`. -/
def execEnt1 (m : AddrSpec) (s : State) : Host.Outcome State Fault Refusal :=
  .next (s.enter .i1 m (enterWord m (s.mRaw m)))

/-- ENN1 (R191): `rI[1] <- -M`. -/
def execEnn1 (m : AddrSpec) (s : State) : Host.Outcome State Fault Refusal :=
  .next (s.enter .i1 m (enterNegWord m (s.mRaw m)))

/-- INC2 (R192): `rI[2] <- AddTo(rI[2], M)`. -/
def execInc2 (m : AddrSpec) (s : State) : Host.Outcome State Fault Refusal :=
  .next (s.modify .i2 m (s.mRaw m))

/-- DEC2 (R193): `rI[2] <- AddTo(rI[2], -M)`. -/
def execDec2 (m : AddrSpec) (s : State) : Host.Outcome State Fault Refusal :=
  .next (s.modify .i2 m (-s.mRaw m))

/-- ENT2 (R194): `rI[2] <- M`. -/
def execEnt2 (m : AddrSpec) (s : State) : Host.Outcome State Fault Refusal :=
  .next (s.enter .i2 m (enterWord m (s.mRaw m)))

/-- ENN2 (R195): `rI[2] <- -M`. -/
def execEnn2 (m : AddrSpec) (s : State) : Host.Outcome State Fault Refusal :=
  .next (s.enter .i2 m (enterNegWord m (s.mRaw m)))

/-- INC3 (R196): `rI[3] <- AddTo(rI[3], M)`. -/
def execInc3 (m : AddrSpec) (s : State) : Host.Outcome State Fault Refusal :=
  .next (s.modify .i3 m (s.mRaw m))

/-- DEC3 (R197): `rI[3] <- AddTo(rI[3], -M)`. -/
def execDec3 (m : AddrSpec) (s : State) : Host.Outcome State Fault Refusal :=
  .next (s.modify .i3 m (-s.mRaw m))

/-- ENT3 (R198): `rI[3] <- M`. -/
def execEnt3 (m : AddrSpec) (s : State) : Host.Outcome State Fault Refusal :=
  .next (s.enter .i3 m (enterWord m (s.mRaw m)))

/-- ENN3 (R199): `rI[3] <- -M`. -/
def execEnn3 (m : AddrSpec) (s : State) : Host.Outcome State Fault Refusal :=
  .next (s.enter .i3 m (enterNegWord m (s.mRaw m)))

/-- INC4 (R200): `rI[4] <- AddTo(rI[4], M)`. -/
def execInc4 (m : AddrSpec) (s : State) : Host.Outcome State Fault Refusal :=
  .next (s.modify .i4 m (s.mRaw m))

/-- DEC4 (R201): `rI[4] <- AddTo(rI[4], -M)`. -/
def execDec4 (m : AddrSpec) (s : State) : Host.Outcome State Fault Refusal :=
  .next (s.modify .i4 m (-s.mRaw m))

/-- ENT4 (R202): `rI[4] <- M`. -/
def execEnt4 (m : AddrSpec) (s : State) : Host.Outcome State Fault Refusal :=
  .next (s.enter .i4 m (enterWord m (s.mRaw m)))

/-- ENN4 (R203): `rI[4] <- -M`. -/
def execEnn4 (m : AddrSpec) (s : State) : Host.Outcome State Fault Refusal :=
  .next (s.enter .i4 m (enterNegWord m (s.mRaw m)))

/-- INC5 (R204): `rI[5] <- AddTo(rI[5], M)`. -/
def execInc5 (m : AddrSpec) (s : State) : Host.Outcome State Fault Refusal :=
  .next (s.modify .i5 m (s.mRaw m))

/-- DEC5 (R205): `rI[5] <- AddTo(rI[5], -M)`. -/
def execDec5 (m : AddrSpec) (s : State) : Host.Outcome State Fault Refusal :=
  .next (s.modify .i5 m (-s.mRaw m))

/-- ENT5 (R206): `rI[5] <- M`. -/
def execEnt5 (m : AddrSpec) (s : State) : Host.Outcome State Fault Refusal :=
  .next (s.enter .i5 m (enterWord m (s.mRaw m)))

/-- ENN5 (R207): `rI[5] <- -M`. -/
def execEnn5 (m : AddrSpec) (s : State) : Host.Outcome State Fault Refusal :=
  .next (s.enter .i5 m (enterNegWord m (s.mRaw m)))

/-- INC6 (R208): `rI[6] <- AddTo(rI[6], M)`. -/
def execInc6 (m : AddrSpec) (s : State) : Host.Outcome State Fault Refusal :=
  .next (s.modify .i6 m (s.mRaw m))

/-- DEC6 (R209): `rI[6] <- AddTo(rI[6], -M)`. -/
def execDec6 (m : AddrSpec) (s : State) : Host.Outcome State Fault Refusal :=
  .next (s.modify .i6 m (-s.mRaw m))

/-- ENT6 (R210): `rI[6] <- M`. -/
def execEnt6 (m : AddrSpec) (s : State) : Host.Outcome State Fault Refusal :=
  .next (s.enter .i6 m (enterWord m (s.mRaw m)))

/-- ENN6 (R211): `rI[6] <- -M`. -/
def execEnn6 (m : AddrSpec) (s : State) : Host.Outcome State Fault Refusal :=
  .next (s.enter .i6 m (enterNegWord m (s.mRaw m)))

/-- INCX (R212): `rX <- AddTo(rX, M)`. -/
def execIncx (m : AddrSpec) (s : State) : Host.Outcome State Fault Refusal :=
  .next (s.modify .x m (s.mRaw m))

/-- DECX (R213): `rX <- AddTo(rX, -M)`. -/
def execDecx (m : AddrSpec) (s : State) : Host.Outcome State Fault Refusal :=
  .next (s.modify .x m (-s.mRaw m))

/-- ENTX (R214): `rX <- M`. -/
def execEntx (m : AddrSpec) (s : State) : Host.Outcome State Fault Refusal :=
  .next (s.enter .x m (enterWord m (s.mRaw m)))

/-- ENNX (R215): `rX <- -M`. -/
def execEnnx (m : AddrSpec) (s : State) : Host.Outcome State Fault Refusal :=
  .next (s.enter .x m (enterNegWord m (s.mRaw m)))

end Sys2Proof.Machine
end

