-- ==== Sys2Proof/Machine/Compare.lean ====
section
/-! DEFINITION. The compare instructions (42_compare_branch.md R230 to R238). -/

namespace Sys2Proof.Machine

/-- The compare template: CI takes the order of the same field of x[k] and of the word at M (R230). -/
def State.compareReg (s : State) (k : Reg) (m : AddrSpec) (f : Nat) : State :=
  (s.warnAll (s.operandWarnings m f)).setCI (compareFields (s.reg k) (s.readMem (s.mAddr m)) (fieldSpec f))

/-- CMPA (R231): CI takes the comparison of rA with the word at M. -/
def execCmpa (m : AddrSpec) (f : Nat) (s : State) : Host.Outcome State Fault Refusal :=
  .next (s.compareReg .a m f)

/-- CMP1 (R232): CI takes the comparison of rI[1] with the word at M. -/
def execCmp1 (m : AddrSpec) (f : Nat) (s : State) : Host.Outcome State Fault Refusal :=
  .next (s.compareReg .i1 m f)

/-- CMP2 (R233): CI takes the comparison of rI[2] with the word at M. -/
def execCmp2 (m : AddrSpec) (f : Nat) (s : State) : Host.Outcome State Fault Refusal :=
  .next (s.compareReg .i2 m f)

/-- CMP3 (R234): CI takes the comparison of rI[3] with the word at M. -/
def execCmp3 (m : AddrSpec) (f : Nat) (s : State) : Host.Outcome State Fault Refusal :=
  .next (s.compareReg .i3 m f)

/-- CMP4 (R235): CI takes the comparison of rI[4] with the word at M. -/
def execCmp4 (m : AddrSpec) (f : Nat) (s : State) : Host.Outcome State Fault Refusal :=
  .next (s.compareReg .i4 m f)

/-- CMP5 (R236): CI takes the comparison of rI[5] with the word at M. -/
def execCmp5 (m : AddrSpec) (f : Nat) (s : State) : Host.Outcome State Fault Refusal :=
  .next (s.compareReg .i5 m f)

/-- CMP6 (R237): CI takes the comparison of rI[6] with the word at M. -/
def execCmp6 (m : AddrSpec) (f : Nat) (s : State) : Host.Outcome State Fault Refusal :=
  .next (s.compareReg .i6 m f)

/-- CMPX (R238): CI takes the comparison of rX with the word at M. -/
def execCmpx (m : AddrSpec) (f : Nat) (s : State) : Host.Outcome State Fault Refusal :=
  .next (s.compareReg .x m f)

end Sys2Proof.Machine
end

