-- ==== Sys2Proof/Machine/IO.lean ====
section
/-! DEFINITION. The input/output instructions, the core's side (46_io.md R350 to R372). -/

namespace Sys2Proof.Machine

/-- Device-id validation (R351): an F above 20 warns W4 and the instruction does nothing else. -/
def State.withDevice (s : State) (f : Nat) (body : State → Device → State) : State :=
  match deviceOf f with
  | none => s.warnAll [.w4]
  | some d => body s d

/-- The busy test of IN, OUT and IOC (R352): on a busy device the instruction is rolled back and the core waits;
otherwise it proceeds. -/
def State.whenFree (s : State) (d : Device) (go : State → State) : State :=
  if s.isBusy d then (s.query d).waitForDevice d else go (s.query d)

/-- The third step of IN and OUT (R353). -/
def State.startTransfer (s : State) (m : AddrSpec) (dir : Direction) (d : Device) : State :=
  (s.warnAll (s.addrWarnings m)).beginIO d dir (s.mAddr m)

/-- What IOC asks of device `d` with the count M: an operation, or none where the combination is not supported (R360). -/
def controlOf (d : Device) (count : Int) : Option ControlOp :=
  if d.val ≤ 7 then
    if count = 0 then some (.rewind d)
    else if count < 0 then some (.skipBackward d (100 * count.natAbs))
    else some (.skipForward d (100 * count.natAbs))
  else if d = printer then
    if count = 0 then some .skipToNextPage else none
  else none

/-- The third step of IOC (R360): the control operation, or W8. -/
def State.control (s : State) (m : AddrSpec) (d : Device) : State :=
  let t := s.warnAll (indexWarnings m)
  match controlOf d (s.mRaw m) with
  | some op => t.emit (.deviceControl op)
  | none => t.warnAll [.w8]

/-- The device jumps (R370, R371): evaluate M, query once, jump if the answer is `taken`. -/
def State.branchDevice (s : State) (m : AddrSpec) (taken : Bool) (d : Device) : State :=
  ((s.warnAll (s.addrWarnings m)).query d).jumpIf (s.isBusy d == taken) (s.mAddr m)

/-- JBUS (R370): jump if the device is busy. -/
def execJbus (m : AddrSpec) (f : Nat) (s : State) : Host.Outcome State Fault Refusal :=
  .next (s.withDevice f fun t d => t.branchDevice m true d)

/-- IOC (R360): device control. -/
def execIoc (m : AddrSpec) (f : Nat) (s : State) : Host.Outcome State Fault Refusal :=
  .next (s.withDevice f fun t d => t.whenFree d fun u => u.control m d)

/-- IN (R355): start input. -/
def execInp (m : AddrSpec) (f : Nat) (s : State) : Host.Outcome State Fault Refusal :=
  .next (s.withDevice f fun t d => t.whenFree d fun u => u.startTransfer m .input d)

/-- OUT (R356): start output. -/
def execOut (m : AddrSpec) (f : Nat) (s : State) : Host.Outcome State Fault Refusal :=
  .next (s.withDevice f fun t d => t.whenFree d fun u => u.startTransfer m .output d)

/-- JRED (R371): jump if the device is ready. -/
def execJred (m : AddrSpec) (f : Nat) (s : State) : Host.Outcome State Fault Refusal :=
  .next (s.withDevice f fun t d => t.branchDevice m false d)

end Sys2Proof.Machine
end

