-- ==== Sys2Proof/Machine/Jump.lean ====
section
/-! DEFINITION. The jumps (42_compare_branch.md R240 to R299). The device jumps are in Machine/IO.lean. -/

namespace Sys2Proof.Machine

/-- A jump to M that is taken if `c`; M is evaluated, and may warn, either way (R240). -/
def State.branch (s : State) (c : Bool) (m : AddrSpec) : State :=
  (s.warnAll (s.addrWarnings m)).jumpIf c (s.mAddr m)

/-- A register jump: taken if `test` holds of the signed value of x[k] (R251). -/
def State.branchReg (s : State) (k : Reg) (test : Int → Bool) (m : AddrSpec) : State :=
  s.branch (test (s.reg k).val) m

/-- JMP (R241): `Jump(M_addr(IR))`. -/
def execJmp (m : AddrSpec) (s : State) : Host.Outcome State Fault Refusal :=
  .next (s.branch true m)

/-- JSJ (R242): `JumpNoSave(M_addr(IR))`. -/
def execJsj (m : AddrSpec) (s : State) : Host.Outcome State Fault Refusal :=
  .next ((s.warnAll (s.addrWarnings m)).jumpNoSave (s.mAddr m))

/-- JOV (R243): jump if OV; OV is cleared either way. -/
def execJov (m : AddrSpec) (s : State) : Host.Outcome State Fault Refusal :=
  .next ((s.branch s.ov m).setOV false)

/-- JNOV (R244): jump if not OV; OV is cleared either way. -/
def execJnov (m : AddrSpec) (s : State) : Host.Outcome State Fault Refusal :=
  .next ((s.branch (!s.ov) m).setOV false)

/-- JL (R245): jump if CI = LESS. -/
def execJl (m : AddrSpec) (s : State) : Host.Outcome State Fault Refusal :=
  .next (s.branch (decide (s.ci = .less)) m)

/-- JE (R246): jump if CI = EQUAL. -/
def execJe (m : AddrSpec) (s : State) : Host.Outcome State Fault Refusal :=
  .next (s.branch (decide (s.ci = .equal)) m)

/-- JG (R247): jump if CI = GREATER. -/
def execJg (m : AddrSpec) (s : State) : Host.Outcome State Fault Refusal :=
  .next (s.branch (decide (s.ci = .greater)) m)

/-- JGE (R248): jump if CI is not LESS. -/
def execJge (m : AddrSpec) (s : State) : Host.Outcome State Fault Refusal :=
  .next (s.branch (decide (s.ci ≠ .less)) m)

/-- JNE (R249): jump if CI is not EQUAL. -/
def execJne (m : AddrSpec) (s : State) : Host.Outcome State Fault Refusal :=
  .next (s.branch (decide (s.ci ≠ .equal)) m)

/-- JLE (R250): jump if CI is not GREATER. -/
def execJle (m : AddrSpec) (s : State) : Host.Outcome State Fault Refusal :=
  .next (s.branch (decide (s.ci ≠ .greater)) m)

/-- JAN (R252): jump if v < 0, v = val(rA). -/
def execJan (m : AddrSpec) (s : State) : Host.Outcome State Fault Refusal :=
  .next (s.branchReg .a (fun v => decide (v < 0)) m)

/-- JAZ (R253): jump if v = 0, v = val(rA). -/
def execJaz (m : AddrSpec) (s : State) : Host.Outcome State Fault Refusal :=
  .next (s.branchReg .a (fun v => decide (v = 0)) m)

/-- JAP (R254): jump if v > 0, v = val(rA). -/
def execJap (m : AddrSpec) (s : State) : Host.Outcome State Fault Refusal :=
  .next (s.branchReg .a (fun v => decide (0 < v)) m)

/-- JANN (R255): jump if v >= 0, v = val(rA). -/
def execJann (m : AddrSpec) (s : State) : Host.Outcome State Fault Refusal :=
  .next (s.branchReg .a (fun v => decide (0 ≤ v)) m)

/-- JANZ (R256): jump if v != 0, v = val(rA). -/
def execJanz (m : AddrSpec) (s : State) : Host.Outcome State Fault Refusal :=
  .next (s.branchReg .a (fun v => decide (v ≠ 0)) m)

/-- JANP (R257): jump if v <= 0, v = val(rA). -/
def execJanp (m : AddrSpec) (s : State) : Host.Outcome State Fault Refusal :=
  .next (s.branchReg .a (fun v => decide (v ≤ 0)) m)

/-- J1N (R258): jump if v < 0, v = val(rI[1]). -/
def execJ1n (m : AddrSpec) (s : State) : Host.Outcome State Fault Refusal :=
  .next (s.branchReg .i1 (fun v => decide (v < 0)) m)

/-- J1Z (R259): jump if v = 0, v = val(rI[1]). -/
def execJ1z (m : AddrSpec) (s : State) : Host.Outcome State Fault Refusal :=
  .next (s.branchReg .i1 (fun v => decide (v = 0)) m)

/-- J1P (R260): jump if v > 0, v = val(rI[1]). -/
def execJ1p (m : AddrSpec) (s : State) : Host.Outcome State Fault Refusal :=
  .next (s.branchReg .i1 (fun v => decide (0 < v)) m)

/-- J1NN (R261): jump if v >= 0, v = val(rI[1]). -/
def execJ1nn (m : AddrSpec) (s : State) : Host.Outcome State Fault Refusal :=
  .next (s.branchReg .i1 (fun v => decide (0 ≤ v)) m)

/-- J1NZ (R262): jump if v != 0, v = val(rI[1]). -/
def execJ1nz (m : AddrSpec) (s : State) : Host.Outcome State Fault Refusal :=
  .next (s.branchReg .i1 (fun v => decide (v ≠ 0)) m)

/-- J1NP (R263): jump if v <= 0, v = val(rI[1]). -/
def execJ1np (m : AddrSpec) (s : State) : Host.Outcome State Fault Refusal :=
  .next (s.branchReg .i1 (fun v => decide (v ≤ 0)) m)

/-- J2N (R264): jump if v < 0, v = val(rI[2]). -/
def execJ2n (m : AddrSpec) (s : State) : Host.Outcome State Fault Refusal :=
  .next (s.branchReg .i2 (fun v => decide (v < 0)) m)

/-- J2Z (R265): jump if v = 0, v = val(rI[2]). -/
def execJ2z (m : AddrSpec) (s : State) : Host.Outcome State Fault Refusal :=
  .next (s.branchReg .i2 (fun v => decide (v = 0)) m)

/-- J2P (R266): jump if v > 0, v = val(rI[2]). -/
def execJ2p (m : AddrSpec) (s : State) : Host.Outcome State Fault Refusal :=
  .next (s.branchReg .i2 (fun v => decide (0 < v)) m)

/-- J2NN (R267): jump if v >= 0, v = val(rI[2]). -/
def execJ2nn (m : AddrSpec) (s : State) : Host.Outcome State Fault Refusal :=
  .next (s.branchReg .i2 (fun v => decide (0 ≤ v)) m)

/-- J2NZ (R268): jump if v != 0, v = val(rI[2]). -/
def execJ2nz (m : AddrSpec) (s : State) : Host.Outcome State Fault Refusal :=
  .next (s.branchReg .i2 (fun v => decide (v ≠ 0)) m)

/-- J2NP (R269): jump if v <= 0, v = val(rI[2]). -/
def execJ2np (m : AddrSpec) (s : State) : Host.Outcome State Fault Refusal :=
  .next (s.branchReg .i2 (fun v => decide (v ≤ 0)) m)

/-- J3N (R270): jump if v < 0, v = val(rI[3]). -/
def execJ3n (m : AddrSpec) (s : State) : Host.Outcome State Fault Refusal :=
  .next (s.branchReg .i3 (fun v => decide (v < 0)) m)

/-- J3Z (R271): jump if v = 0, v = val(rI[3]). -/
def execJ3z (m : AddrSpec) (s : State) : Host.Outcome State Fault Refusal :=
  .next (s.branchReg .i3 (fun v => decide (v = 0)) m)

/-- J3P (R272): jump if v > 0, v = val(rI[3]). -/
def execJ3p (m : AddrSpec) (s : State) : Host.Outcome State Fault Refusal :=
  .next (s.branchReg .i3 (fun v => decide (0 < v)) m)

/-- J3NN (R273): jump if v >= 0, v = val(rI[3]). -/
def execJ3nn (m : AddrSpec) (s : State) : Host.Outcome State Fault Refusal :=
  .next (s.branchReg .i3 (fun v => decide (0 ≤ v)) m)

/-- J3NZ (R274): jump if v != 0, v = val(rI[3]). -/
def execJ3nz (m : AddrSpec) (s : State) : Host.Outcome State Fault Refusal :=
  .next (s.branchReg .i3 (fun v => decide (v ≠ 0)) m)

/-- J3NP (R275): jump if v <= 0, v = val(rI[3]). -/
def execJ3np (m : AddrSpec) (s : State) : Host.Outcome State Fault Refusal :=
  .next (s.branchReg .i3 (fun v => decide (v ≤ 0)) m)

/-- J4N (R276): jump if v < 0, v = val(rI[4]). -/
def execJ4n (m : AddrSpec) (s : State) : Host.Outcome State Fault Refusal :=
  .next (s.branchReg .i4 (fun v => decide (v < 0)) m)

/-- J4Z (R277): jump if v = 0, v = val(rI[4]). -/
def execJ4z (m : AddrSpec) (s : State) : Host.Outcome State Fault Refusal :=
  .next (s.branchReg .i4 (fun v => decide (v = 0)) m)

/-- J4P (R278): jump if v > 0, v = val(rI[4]). -/
def execJ4p (m : AddrSpec) (s : State) : Host.Outcome State Fault Refusal :=
  .next (s.branchReg .i4 (fun v => decide (0 < v)) m)

/-- J4NN (R279): jump if v >= 0, v = val(rI[4]). -/
def execJ4nn (m : AddrSpec) (s : State) : Host.Outcome State Fault Refusal :=
  .next (s.branchReg .i4 (fun v => decide (0 ≤ v)) m)

/-- J4NZ (R280): jump if v != 0, v = val(rI[4]). -/
def execJ4nz (m : AddrSpec) (s : State) : Host.Outcome State Fault Refusal :=
  .next (s.branchReg .i4 (fun v => decide (v ≠ 0)) m)

/-- J4NP (R281): jump if v <= 0, v = val(rI[4]). -/
def execJ4np (m : AddrSpec) (s : State) : Host.Outcome State Fault Refusal :=
  .next (s.branchReg .i4 (fun v => decide (v ≤ 0)) m)

/-- J5N (R282): jump if v < 0, v = val(rI[5]). -/
def execJ5n (m : AddrSpec) (s : State) : Host.Outcome State Fault Refusal :=
  .next (s.branchReg .i5 (fun v => decide (v < 0)) m)

/-- J5Z (R283): jump if v = 0, v = val(rI[5]). -/
def execJ5z (m : AddrSpec) (s : State) : Host.Outcome State Fault Refusal :=
  .next (s.branchReg .i5 (fun v => decide (v = 0)) m)

/-- J5P (R284): jump if v > 0, v = val(rI[5]). -/
def execJ5p (m : AddrSpec) (s : State) : Host.Outcome State Fault Refusal :=
  .next (s.branchReg .i5 (fun v => decide (0 < v)) m)

/-- J5NN (R285): jump if v >= 0, v = val(rI[5]). -/
def execJ5nn (m : AddrSpec) (s : State) : Host.Outcome State Fault Refusal :=
  .next (s.branchReg .i5 (fun v => decide (0 ≤ v)) m)

/-- J5NZ (R286): jump if v != 0, v = val(rI[5]). -/
def execJ5nz (m : AddrSpec) (s : State) : Host.Outcome State Fault Refusal :=
  .next (s.branchReg .i5 (fun v => decide (v ≠ 0)) m)

/-- J5NP (R287): jump if v <= 0, v = val(rI[5]). -/
def execJ5np (m : AddrSpec) (s : State) : Host.Outcome State Fault Refusal :=
  .next (s.branchReg .i5 (fun v => decide (v ≤ 0)) m)

/-- J6N (R288): jump if v < 0, v = val(rI[6]). -/
def execJ6n (m : AddrSpec) (s : State) : Host.Outcome State Fault Refusal :=
  .next (s.branchReg .i6 (fun v => decide (v < 0)) m)

/-- J6Z (R289): jump if v = 0, v = val(rI[6]). -/
def execJ6z (m : AddrSpec) (s : State) : Host.Outcome State Fault Refusal :=
  .next (s.branchReg .i6 (fun v => decide (v = 0)) m)

/-- J6P (R290): jump if v > 0, v = val(rI[6]). -/
def execJ6p (m : AddrSpec) (s : State) : Host.Outcome State Fault Refusal :=
  .next (s.branchReg .i6 (fun v => decide (0 < v)) m)

/-- J6NN (R291): jump if v >= 0, v = val(rI[6]). -/
def execJ6nn (m : AddrSpec) (s : State) : Host.Outcome State Fault Refusal :=
  .next (s.branchReg .i6 (fun v => decide (0 ≤ v)) m)

/-- J6NZ (R292): jump if v != 0, v = val(rI[6]). -/
def execJ6nz (m : AddrSpec) (s : State) : Host.Outcome State Fault Refusal :=
  .next (s.branchReg .i6 (fun v => decide (v ≠ 0)) m)

/-- J6NP (R293): jump if v <= 0, v = val(rI[6]). -/
def execJ6np (m : AddrSpec) (s : State) : Host.Outcome State Fault Refusal :=
  .next (s.branchReg .i6 (fun v => decide (v ≤ 0)) m)

/-- JXN (R294): jump if v < 0, v = val(rX). -/
def execJxn (m : AddrSpec) (s : State) : Host.Outcome State Fault Refusal :=
  .next (s.branchReg .x (fun v => decide (v < 0)) m)

/-- JXZ (R295): jump if v = 0, v = val(rX). -/
def execJxz (m : AddrSpec) (s : State) : Host.Outcome State Fault Refusal :=
  .next (s.branchReg .x (fun v => decide (v = 0)) m)

/-- JXP (R296): jump if v > 0, v = val(rX). -/
def execJxp (m : AddrSpec) (s : State) : Host.Outcome State Fault Refusal :=
  .next (s.branchReg .x (fun v => decide (0 < v)) m)

/-- JXNN (R297): jump if v >= 0, v = val(rX). -/
def execJxnn (m : AddrSpec) (s : State) : Host.Outcome State Fault Refusal :=
  .next (s.branchReg .x (fun v => decide (0 ≤ v)) m)

/-- JXNZ (R298): jump if v != 0, v = val(rX). -/
def execJxnz (m : AddrSpec) (s : State) : Host.Outcome State Fault Refusal :=
  .next (s.branchReg .x (fun v => decide (v ≠ 0)) m)

/-- JXNP (R299): jump if v <= 0, v = val(rX). -/
def execJxnp (m : AddrSpec) (s : State) : Host.Outcome State Fault Refusal :=
  .next (s.branchReg .x (fun v => decide (v ≤ 0)) m)

end Sys2Proof.Machine
end

