-- ==== Sys2Proof/Machine/LoadStore.lean ====
section
/-! DEFINITION. Loads, negative loads and stores (40_field_loadstore.md R130 to R164). -/

namespace Sys2Proof.Machine

/-- The load template (40_field_loadstore.md section 3): the whole register is replaced by the field. -/
def State.loadField (s : State) (k : Reg) (m : AddrSpec) (f : Nat) : State :=
  (s.warnAll (s.operandWarnings m f)).setReg k (s.operand m f)

/-- The load-negative template (section 4): the sign of the loaded field flipped, also of zero. -/
def State.loadNegField (s : State) (k : Reg) (m : AddrSpec) (f : Nat) : State :=
  (s.warnAll (s.operandWarnings m f)).setReg k (s.operand m f).negate

/-- The store template (sections 5 and 6): the field of the word at M replaced by the rightmost bytes of `v`. -/
def State.storeField (s : State) (v : Word) (m : AddrSpec) (f : Nat) : State :=
  (s.warnAll (s.operandWarnings m f)).writeMem (s.mAddr m) (fieldStore (s.readMem (s.mAddr m)) (fieldSpec f) v)

/-- LDA (R130): `rA <- V`. -/
def execLda (m : AddrSpec) (f : Nat) (s : State) : Host.Outcome State Fault Refusal :=
  .next (s.loadField .a m f)

/-- LD1 (R131): `rI[1] <- V`. -/
def execLd1 (m : AddrSpec) (f : Nat) (s : State) : Host.Outcome State Fault Refusal :=
  .next (s.loadField .i1 m f)

/-- LD2 (R132): `rI[2] <- V`. -/
def execLd2 (m : AddrSpec) (f : Nat) (s : State) : Host.Outcome State Fault Refusal :=
  .next (s.loadField .i2 m f)

/-- LD3 (R133): `rI[3] <- V`. -/
def execLd3 (m : AddrSpec) (f : Nat) (s : State) : Host.Outcome State Fault Refusal :=
  .next (s.loadField .i3 m f)

/-- LD4 (R134): `rI[4] <- V`. -/
def execLd4 (m : AddrSpec) (f : Nat) (s : State) : Host.Outcome State Fault Refusal :=
  .next (s.loadField .i4 m f)

/-- LD5 (R135): `rI[5] <- V`. -/
def execLd5 (m : AddrSpec) (f : Nat) (s : State) : Host.Outcome State Fault Refusal :=
  .next (s.loadField .i5 m f)

/-- LD6 (R136): `rI[6] <- V`. -/
def execLd6 (m : AddrSpec) (f : Nat) (s : State) : Host.Outcome State Fault Refusal :=
  .next (s.loadField .i6 m f)

/-- LDX (R137): `rX <- V`. -/
def execLdx (m : AddrSpec) (f : Nat) (s : State) : Host.Outcome State Fault Refusal :=
  .next (s.loadField .x m f)

/-- LDAN (R140): `rA <- neg(V)`. -/
def execLdan (m : AddrSpec) (f : Nat) (s : State) : Host.Outcome State Fault Refusal :=
  .next (s.loadNegField .a m f)

/-- LD1N (R141): `rI[1] <- neg(V)`. -/
def execLd1n (m : AddrSpec) (f : Nat) (s : State) : Host.Outcome State Fault Refusal :=
  .next (s.loadNegField .i1 m f)

/-- LD2N (R142): `rI[2] <- neg(V)`. -/
def execLd2n (m : AddrSpec) (f : Nat) (s : State) : Host.Outcome State Fault Refusal :=
  .next (s.loadNegField .i2 m f)

/-- LD3N (R143): `rI[3] <- neg(V)`. -/
def execLd3n (m : AddrSpec) (f : Nat) (s : State) : Host.Outcome State Fault Refusal :=
  .next (s.loadNegField .i3 m f)

/-- LD4N (R144): `rI[4] <- neg(V)`. -/
def execLd4n (m : AddrSpec) (f : Nat) (s : State) : Host.Outcome State Fault Refusal :=
  .next (s.loadNegField .i4 m f)

/-- LD5N (R145): `rI[5] <- neg(V)`. -/
def execLd5n (m : AddrSpec) (f : Nat) (s : State) : Host.Outcome State Fault Refusal :=
  .next (s.loadNegField .i5 m f)

/-- LD6N (R146): `rI[6] <- neg(V)`. -/
def execLd6n (m : AddrSpec) (f : Nat) (s : State) : Host.Outcome State Fault Refusal :=
  .next (s.loadNegField .i6 m f)

/-- LDXN (R147): `rX <- neg(V)`. -/
def execLdxn (m : AddrSpec) (f : Nat) (s : State) : Host.Outcome State Fault Refusal :=
  .next (s.loadNegField .x m f)

/-- STA (R150): the field of mem[M] takes rA. -/
def execSta (m : AddrSpec) (f : Nat) (s : State) : Host.Outcome State Fault Refusal :=
  .next (s.storeField (s.reg .a) m f)

/-- ST1 (R151): the field of mem[M] takes rI[1]. -/
def execSt1 (m : AddrSpec) (f : Nat) (s : State) : Host.Outcome State Fault Refusal :=
  .next (s.storeField (s.reg .i1) m f)

/-- ST2 (R152): the field of mem[M] takes rI[2]. -/
def execSt2 (m : AddrSpec) (f : Nat) (s : State) : Host.Outcome State Fault Refusal :=
  .next (s.storeField (s.reg .i2) m f)

/-- ST3 (R153): the field of mem[M] takes rI[3]. -/
def execSt3 (m : AddrSpec) (f : Nat) (s : State) : Host.Outcome State Fault Refusal :=
  .next (s.storeField (s.reg .i3) m f)

/-- ST4 (R154): the field of mem[M] takes rI[4]. -/
def execSt4 (m : AddrSpec) (f : Nat) (s : State) : Host.Outcome State Fault Refusal :=
  .next (s.storeField (s.reg .i4) m f)

/-- ST5 (R155): the field of mem[M] takes rI[5]. -/
def execSt5 (m : AddrSpec) (f : Nat) (s : State) : Host.Outcome State Fault Refusal :=
  .next (s.storeField (s.reg .i5) m f)

/-- ST6 (R156): the field of mem[M] takes rI[6]. -/
def execSt6 (m : AddrSpec) (f : Nat) (s : State) : Host.Outcome State Fault Refusal :=
  .next (s.storeField (s.reg .i6) m f)

/-- STX (R157): the field of mem[M] takes rX. -/
def execStx (m : AddrSpec) (f : Nat) (s : State) : Host.Outcome State Fault Refusal :=
  .next (s.storeField (s.reg .x) m f)

/-- STJ (R163): the field of mem[M] takes `word(0, rJ)`. -/
def execStj (m : AddrSpec) (f : Nat) (s : State) : Host.Outcome State Fault Refusal :=
  .next (s.storeField s.rJWord m f)

/-- STZ (R164): the field of mem[M] takes +0. -/
def execStz (m : AddrSpec) (f : Nat) (s : State) : Host.Outcome State Fault Refusal :=
  .next (s.storeField Word.plusZero m f)

end Sys2Proof.Machine
end

