-- ==== Sys2Proof/Machine/Move.lean ====
section
/-! DEFINITION. The block mover (45_move.md). -/

namespace Sys2Proof.Machine

/-- Move `n` words, one at a time in ascending order, each read after all earlier writes; both cursors wrap (R340,
R341). -/
def State.moveWords (s : State) (src dst : Addr) : Nat → State
  | 0 => s
  | n + 1 => State.moveWords (s.writeMem dst (s.readMem src)) (Addr.next src) (Addr.next dst) n

/-- The address `n` words after `a`, wrapping at 4000. -/
def Addr.advance (a : Addr) (n : Nat) : Addr := ⟨(a.val + n) % 4000, Nat.mod_lt _ (by decide)⟩

/-- The destination of a MOVE: the magnitude of rI[1], clamped (R340). -/
def State.moveDest (s : State) : Addr := clampAddr (s.reg .i1).magnitude

/-- W3 of a number that is no address, in MOVE's own checks (R340). -/
def aboveRange (n : Int) : List Warning := if 3999 < n then [.w3] else []

/-- The warnings of a MOVE that moves, in order: W2, W3 of the source, W7, W3 of the destination (R340, R432). -/
def State.moveWarnings (s : State) (m : AddrSpec) : List Warning :=
  indexWarnings m ++ aboveRange (s.mRaw m) ++ (if (s.reg .i1).val < 0 then [.w7] else []) ++ aboveRange (s.reg .i1).magnitude

/-- The block move of `f` words from `src` to the destination rI[1] names, and rI[1] past the last word (R340, R342). -/
def State.moveBlock (s : State) (src : Addr) (f : Nat) : State :=
  (s.moveWords src s.moveDest f).setReg .i1 (word false (Addr.advance s.moveDest f).val)

/-- MOVE (R340): move F words from M to rI[1]; F = 0 is a complete no-operation, a negative M skips. -/
def execMove (m : AddrSpec) (f : Nat) (s : State) : Host.Outcome State Fault Refusal :=
  .next (if f = 0 then s
    else if s.mRaw m < 0 then s.warnAll (indexWarnings m ++ [.w6])
    else (s.warnAll (s.moveWarnings m)).moveBlock (clampAddr (s.mRaw m)) f)

end Sys2Proof.Machine
end

