-- ==== Sys2Proof/Machine/Shift.lean ====
section
/-! DEFINITION. The shift unit (43_shift.md). -/

namespace Sys2Proof.Machine

/-- The pair value `AX`, a 60-bit number with rA the high half (R311). -/
def State.pair (s : State) : Nat := (s.reg .a).magnitude * 2 ^ 30 + (s.reg .x).magnitude

/-- Write the two magnitudes of the pair; the signs of rA and rX stay (R311). -/
def State.setPair (s : State) (ax : Nat) : State :=
  (s.setReg .a (word (s.reg .a).neg (ax / 2 ^ 30))).setReg .x (word (s.reg .x).neg (ax % 2 ^ 30))

/-- Write the magnitude of rA; its sign stays. -/
def State.setAMag (s : State) (n : Nat) : State := s.setReg .a (word (s.reg .a).neg n)

/-- The count of the non-circular forms: min(n, 10) bytes (R310). -/
def shiftCount (n : Int) : Nat := min n.toNat 10

/-- The count of the circular forms: n mod 10 bytes (R310). -/
def rotateCount (n : Int) : Nat := n.toNat % 10

/-- The common part of the six shifts (R310): a negative count warns W6 and does nothing; otherwise `body` runs on the
unclamped M. -/
def State.shift (s : State) (m : AddrSpec) (body : State → Int → State) : State :=
  if s.mRaw m < 0 then s.warnAll (indexWarnings m ++ [.w6])
  else body (s.warnAll (indexWarnings m)) (s.mRaw m)

/-- rA left by c bytes (R312). -/
def State.shiftLeftA (s : State) (n : Int) : State :=
  s.setAMag ((s.reg .a).magnitude * 64 ^ shiftCount n % 2 ^ 30)

/-- rA right by c bytes (R313). -/
def State.shiftRightA (s : State) (n : Int) : State :=
  s.setAMag ((s.reg .a).magnitude / 64 ^ shiftCount n)

/-- The pair left by c bytes (R314). -/
def State.shiftLeftPair (s : State) (n : Int) : State :=
  s.setPair (s.pair * 64 ^ shiftCount n % 2 ^ 60)

/-- The pair right by c bytes (R315). -/
def State.shiftRightPair (s : State) (n : Int) : State :=
  s.setPair (s.pair / 64 ^ shiftCount n)

/-- The pair rotated left by c bytes (R316). -/
def State.rotateLeftPair (s : State) (n : Int) : State :=
  s.setPair (s.pair * 64 ^ rotateCount n % 2 ^ 60 + s.pair / 64 ^ (10 - rotateCount n))

/-- The pair rotated right by c bytes (R317). -/
def State.rotateRightPair (s : State) (n : Int) : State :=
  s.setPair (s.pair / 64 ^ rotateCount n + s.pair % 64 ^ rotateCount n * 64 ^ (10 - rotateCount n))

/-- SLA (R312): rA left by M bytes. -/
def execSla (m : AddrSpec) (s : State) : Host.Outcome State Fault Refusal :=
  .next (s.shift m State.shiftLeftA)

/-- SRA (R313): rA right by M bytes. -/
def execSra (m : AddrSpec) (s : State) : Host.Outcome State Fault Refusal :=
  .next (s.shift m State.shiftRightA)

/-- SLAX (R314): rA:rX left by M bytes. -/
def execSlax (m : AddrSpec) (s : State) : Host.Outcome State Fault Refusal :=
  .next (s.shift m State.shiftLeftPair)

/-- SRAX (R315): rA:rX right by M bytes. -/
def execSrax (m : AddrSpec) (s : State) : Host.Outcome State Fault Refusal :=
  .next (s.shift m State.shiftRightPair)

/-- SLC (R316): rA:rX rotated left by M bytes. -/
def execSlc (m : AddrSpec) (s : State) : Host.Outcome State Fault Refusal :=
  .next (s.shift m State.rotateLeftPair)

/-- SRC (R317): rA:rX rotated right by M bytes. -/
def execSrc (m : AddrSpec) (s : State) : Host.Outcome State Fault Refusal :=
  .next (s.shift m State.rotateRightPair)

end Sys2Proof.Machine
end

