-- ==== Sys2Proof/Machine/Special.lean ====
section
/-! DEFINITION. NOP, NUM, CHAR and HLT (44_special.md). -/

namespace Sys2Proof.Machine

/-- The number whose decimal digits are the bytes mod 10, the most significant first (R331). -/
def decimalOf (bs : List Nat) : Nat := bs.foldl (fun n b => 10 * n + b % 10) 0

/-- The ten decimal digits of `n`, d1 first (R332). -/
def decimalDigits (n : Nat) : List Nat :=
  [n / 10 ^ 9 % 10, n / 10 ^ 8 % 10, n / 10 ^ 7 % 10, n / 10 ^ 6 % 10, n / 10 ^ 5 % 10,
   n / 10 ^ 4 % 10, n / 10 ^ 3 % 10, n / 10 ^ 2 % 10, n / 10 % 10, n % 10]

/-- The character code of a digit: 30 is the code of `0` (00_scope.md R6 `DIGIT_CODE_OFFSET`; log entry 26). -/
def digitCode (d : Nat) : Nat := 30 + d

/-- rA takes the number whose digits are the ten bytes of rA and rX; its sign stays (R331). -/
def State.toBinary (s : State) : State :=
  s.setReg .a (word (s.reg .a).neg (decimalOf ((s.reg .a).bytes ++ (s.reg .x).bytes)))

/-- rA and rX take the codes of the ten digits of the magnitude of rA; both signs stay (R332). -/
def State.toDecimal (s : State) : State :=
  let codes := (decimalDigits (s.reg .a).magnitude).map digitCode
  (s.setReg .a (word (s.reg .a).neg (ofBytes (codes.take 5)))).setReg .x (word (s.reg .x).neg (ofBytes (codes.drop 5)))

/-- NOP (R330): nothing changes; M is not evaluated. -/
def execNop (_m : AddrSpec) (_f : Nat) (s : State) : Host.Outcome State Fault Refusal :=
  .next s

/-- NUM (R331): the decimal digits of rA:rX to binary in rA; M is not evaluated. -/
def execNum (_m : AddrSpec) (s : State) : Host.Outcome State Fault Refusal :=
  .next s.toBinary

/-- CHAR (R332): the digits of rA to character codes in rA:rX; M is not evaluated. -/
def execChar (_m : AddrSpec) (s : State) : Host.Outcome State Fault Refusal :=
  .next s.toDecimal

/-- HLT (R333): `RS <- HALT`; M is not evaluated. -/
def execHlt (_m : AddrSpec) (s : State) : Host.Outcome State Fault Refusal :=
  .next { s with rs := .halt }

end Sys2Proof.Machine
end

