-- ==== Sys2Proof/Machine/Timing.lean ====
section
/-! DEFINITION. The cycle accumulator (10_state.md R33) and `CycleCost` (00_scope.md R7, 70_reset_and_hazards.md R475). No
instruction's result depends on either. -/

namespace Sys2Proof

/-! ## The open costs (R7, R475): free values, constants with no body (log entry 9) -/

/-- The open part of `CycleCost(i, state)` (R7, R401). The state is the whole state in which the execute phase begins, so
the cost may depend on every register and memory word, and it may differ each time (`costTick`). -/
opaque Config.freeCost (i : Instr) (s : Machine.State) : Nat

/-- The cost that moving the `j`-th word adds to a MOVE, and for `j = 0` its cost without any word (R343: the cost of MOVE
is non-decreasing in F). -/
opaque Config.freeMoveCost (m : AddrSpec) (s : Machine.State) (j : Nat) : Nat

/-- The "default cycle cost" of an unsupported sub-operation (R104, R475), whose value the source does not give. -/
opaque Config.defaultCost (e : DecodeError) (s : Machine.State) : Nat

end Sys2Proof

namespace Sys2Proof.Machine

/-- An I/O instruction on F finds a valid device busy (R352): it charges nothing (R7). -/
def State.finds (s : State) (f : Nat) : Bool :=
  match deviceOf f with
  | none => false
  | some d => s.isBusy d

/-- The cost of a MOVE of `f` words: non-decreasing in `f` (R343). -/
def moveCost (m : AddrSpec) (s : State) : Nat → Nat
  | 0 => Config.freeMoveCost m s 0
  | n + 1 => moveCost m s n + Config.freeMoveCost m s (n + 1)

/-- `CycleCost` (R7): IN, OUT and IOC on a busy device cost 0, IOC costs 1 or, with an invalid device id, 0 (R351), MOVE
grows with F; every other cost is free (log entry 9). `s` is the state the instruction starts in. -/
def cycleCost (i : Instr) (s : State) : Nat :=
  match i with
  | .ioc _ f => if (deviceOf f).isNone || s.finds f then 0 else 1
  | .inp _ f => if s.finds f then 0 else Config.freeCost i s
  | .out _ f => if s.finds f then 0 else Config.freeCost i s
  | .move m f => moveCost m s f
  | j => Config.freeCost j s

/-- `CYC <- CYC + c` (R401), and the next free cost is a fresh one. -/
def State.charge (s : State) (c : Nat) : State := { s with cyc := s.cyc + c, costTick := s.costTick + 1 }

/-- `CYC <- budget` in a wait with the device still busy (R410); outside a run transaction there is no budget (R414). -/
def State.spendBudget (s : State) : State :=
  match s.runBudget with
  | none => s
  | some b => { s with cyc := b }

end Sys2Proof.Machine
end

