-- ==== Sys2Proof/Machine/Driver.lean ====
section
/-! DEFINITION. The execution driver: fetch and execute, the wait and boot states, the host's controls and its run
transaction (47_run_state.md). -/

namespace Sys2Proof.Machine

/-! ## The RUNNING step (R401) -/

/-- `IR <- MemRead(pc, 1); ppc <- pc; pc <- (pc + 1) mod 4000`. -/
def State.fetch (s : State) : State := { s with ir := s.readMem s.pc, ppc := s.pc, pc := Addr.next s.pc }

/-- Execute the fetched word and charge its cost. An unsupported sub-operation is a no-operation with W5 and the default
cost; it does not evaluate M (R104). -/
def execFetched (s : State) : Host.Outcome State Fault Refusal :=
  match decode s.ir with
  | .ok i =>
    match exec i s with
    | .next t => .next (t.charge (cycleCost i s))
    | .fault r => .fault r
    | .refused r => .refused r
  | .error e => .next ((s.warnAll [.w5]).charge (Config.defaultCost e s))

/-- The RUNNING step. -/
def runningStep (s : State) : Host.Outcome State Fault Refusal := execFetched s.fetch

/-! ## The wait and boot states -/

/-- `notify_waiting(d, false); WN <- false`. -/
def State.endWaiting (s : State) (d : Device) : State :=
  { s with wn := false, trace := s.trace ++ [.notifyWaiting d false] }

/-- The WAIT_DEVICE(d) step (R403). -/
def State.waitStep (s : State) (d : Device) : State :=
  if s.isBusy d then (s.query d).spendBudget else { (s.query d).endWaiting d with rs := .running }

/-- `if WN then notify_waiting(16, false); WN <- false` (R406, R407). -/
def State.bootReady (s : State) : State := if s.wn then s.endWaiting cardReader else s

/-- The boot states with the card reader busy: the waiting notification once, and the budget is consumed (R406, R407). -/
def State.bootWait (s : State) : State :=
  (if s.wn then s else { s with wn := true, trace := s.trace ++ [.notifyWaiting cardReader true] }).spendBudget

/-- The BOOT_READ(0) step (R406): an 80-character read into address 0. -/
def State.bootStep0 (s : State) : State :=
  let q := s.query cardReader
  if s.isBusy cardReader then q.bootWait
  else { q.bootReady.beginIO cardReader .input 0 with rs := .bootRead1 }

/-- The BOOT_READ(1) step (R407): execution starts at 0. -/
def State.bootStep1 (s : State) : State :=
  let q := s.query cardReader
  if s.isBusy cardReader then q.bootWait
  else { q.bootReady with pc := 0, rJ := 0#12, rs := .running }

/-- One step of the core by its run state (R400). In HALT the core is idle: the state stays (R404; log entry 11). -/
def driverStep (s : State) : Host.Outcome State Fault Refusal :=
  match s.rs with
  | .running => runningStep s
  | .halt => .next s
  | .waitDevice d => .next (s.waitStep d)
  | .bootRead0 => .next s.bootStep0
  | .bootRead1 => .next s.bootStep1

/-! ## The host's controls -/

/-- The device a wait in progress waits for (R411). -/
def RunState.awaits : RunState → Option Device
  | .running => none
  | .halt => none
  | .waitDevice d => some d
  | .bootRead0 => some cardReader
  | .bootRead1 => some cardReader

/-- A forced transition to HALT (R411): a wait in progress is abandoned, and its notification cleared. -/
def State.forceHalt (s : State) : State :=
  let t := if s.wn then
      match s.rs.awaits with
      | some d => s.endWaiting d
      | none => { s with wn := false }
    else s
  { t with rs := .halt }

/-- The stop check at the end of a run transaction (R411): one poll, if `check_signals` is provided. -/
def State.stopCheck (s : State) : State :=
  match s.signals with
  | none => s
  | some stop => if stop then (s.emit (.signalsChecked stop)).forceHalt else s.emit (.signalsChecked stop)

/-- The end of a run transaction (R410): the stop check, then `(CYC, RS = HALT)` is returned. -/
def State.endRun (s : State) : State :=
  let t := s.stopCheck
  { t with runBudget := none, trace := t.trace ++ [.runReturned t.cyc (decide (t.rs = .halt))] }

/-- The loop condition of the run transaction (R410); always true outside one (R414; log entry 10). -/
def State.mayStep (s : State) : Bool :=
  match s.runBudget with
  | none => true
  | some b => decide (s.cyc < b) && decide (s.rs ≠ .halt)

/-- The core's move: one step of the driver, or the end of the run transaction whose loop is over (R410). -/
def coreStep (s : State) : Host.Outcome State Fault Refusal :=
  if s.mayStep then driverStep s else .next s.endRun

/-- `boot` (R408): accepted in every state; nothing else changes. -/
def State.boot (s : State) : State :=
  match s.rs with
  | .waitDevice d => if s.wn then { s.endWaiting d with rs := .bootRead0 } else { s with rs := .bootRead0 }
  | _ => { s with rs := .bootRead0 }

/-- `initialize` (R48, R460): every state element as after reset. The environment's inputs and the record of what it has
seen are not the core's to reset (log entry 21). -/
def State.initialized (s : State) : State :=
  { State.reset with
    busy := s.busy, signals := s.signals, sched := s.sched, trace := s.trace, costTick := s.costTick }

/-- `run(budget)` begins (R410): `CYC <- 0`. -/
def hostRunStep (b : Nat) (s : State) : Host.Outcome State Fault Refusal :=
  match s.runBudget with
  | none => .next { s with cyc := 0, runBudget := some b }
  | some _ => .refused .nestedRun

/-- What one turn does; the turn has already left the schedule. -/
def takeTurn (t : Turn) (s : State) : Host.Outcome State Fault Refusal :=
  match t with
  | .core => coreStep s
  | .adapter d c => adapterStep d c s
  | .setBusy d b => .next { s with busy := s.busy.set d.val b }
  | .setSignals stop => .next { s with signals := s.signals.map fun _ => stop }
  | .hostReset => .next s.initialized
  | .hostBoot => .next s.boot
  | .hostRun b => hostRunStep b s

/-- The turn that is next: the head of the schedule, and the core's where the schedule is empty (log entry 6). -/
def State.nextTurn (s : State) : Turn :=
  match s.sched with
  | [] => .core
  | t :: _ => t

/-- The state with the next turn taken off the schedule. -/
def State.popTurn (s : State) : State := { s with sched := s.sched.tail }

/-- Store the container of an instruction where the core fetches next, and let the very next step fetch and run it: the
core is RUNNING, no run transaction limits it, and the next turn is the core's (log entry 16). -/
def State.placeWord (s : State) (w : Word) : State :=
  { s.writeMem s.pc w with rs := .running, wn := false, runBudget := none, sched := .core :: s.sched }

end Sys2Proof.Machine
end

