-- ==== Sys2Proof/Machine/Step.lean ====
section
/-! DEFINITION. One step of the machine, and placing an instruction where it fetches. -/

namespace Sys2Proof.Machine

/-- One step: the agent whose turn it is moves (R400, 20_memory.md R71). -/
def step (s : State) : Host.Outcome State Fault Refusal := takeTurn s.nextTurn s.popTurn

/-- The state in which the next step fetches and runs the instruction whose bits are `w`, those from `nbits` up being 0. -/
def State.withFetchWord (s : State) (nbits w : Nat) : State := s.placeWord (tableWord nbits w)

end Sys2Proof.Machine
end

