-- ==== Sys2Proof/Safety.lean ====
section
/-! DEFINITION. What claims about runs are stated in: the invariant of the state, the premises on the environment
(46_io.md R392), and what a program must not do with a live buffer (70_reset_and_hazards.md R470). -/

namespace Sys2Proof.Machine

/-- A descriptor has the mode of its device and at most a block to move (10_state.md R40, R41, 46_io.md R350). -/
def Desc.fits (d : Device) : Desc → Bool
  | .words _ n _ => decide (d.val < 16) && decide (n ≤ 100)
  | .chars _ n _ _ _ => decide (16 ≤ d.val) && decide (n ≤ blockUnits d)

/-- `WN` is implied by `RS` in every state except the boot states (10_state.md R32). -/
def waitingAgrees (rs : RunState) (wn : Bool) : Prop :=
  match rs with
  | .running => wn = false
  | .halt => wn = false
  | .waitDevice _ => wn = true
  | .bootRead0 => True
  | .bootRead1 => True

/-- The invariant of the state: the memory is in canonical form, every descriptor fits its slot, and the waiting latch
agrees with the run state. -/
structure State.Inv (s : State) : Prop where
  memory : Memory.wf s.mem = true
  descriptors : ∀ d : Device, (s.descOf d).fits d = true
  waiting : waitingAgrees s.rs s.wn

/-! ## The assumptions on the environment (46_io.md R392, log entry 19)

E1 (`busy` answers a Boolean and does nothing else), E4 (adapter calls fall between the core's steps) and E5 (the
environment changes state by adapters and control inputs alone) are built into `takeTurn`, and E2 into `adapterStep`. E3
and E6 are not: they are the predicates below, premises for the claims that need them. -/

/-- The event hands a transfer over on `d`. -/
def Event.begins (d : Device) : Event → Bool
  | .beginWordIO e _ => decide (e = d)
  | .beginCharIO e _ => decide (e = d)
  | _ => false

/-- The event is a query of `d`. -/
def Event.asks (d : Device) : Event → Bool
  | .busyQuery e _ => decide (e = d)
  | _ => false

/-- The event is a query of `d` that is answered `not busy`. -/
def Event.frees (d : Device) : Event → Bool
  | .busyQuery e b => decide (e = d) && !b
  | _ => false

/-- The event is the return of an adapter call on `d`. -/
def Event.returns (d : Device) : Event → Bool
  | .adapterReturned e _ => decide (e = d)
  | _ => false

/-- No adapter call on `d` comes after a `not busy` answer without a new transfer between. `since` is `none` before the
first transfer on `d` is handed over, and then whether `d` has answered `not busy` since the last one was. -/
def busyUntilLastCall (d : Device) (since : Option Bool) : List Event → Bool
  | [] => true
  | e :: es =>
    !(since == some true && e.returns d) &&
      busyUntilLastCall d (if e.begins d then some false else since.map (· || e.frees d)) es

/-- Assumption E3 on what has happened so far: from the moment a transfer on a device is handed over until the
environment's last adapter call on it, every query of the device was answered `busy`. A transfer the environment abandons
(R380) keeps it. -/
def State.busyWhileCalled (s : State) : Prop := ∀ d : Device, busyUntilLastCall d none s.trace = true

/-- The proviso of 20_memory.md R72 (c), for a state in which the core moves: a device with units still to transfer is
busy. A core's move that hands a transfer over leaves the input `busy` as it was, so the environment meets this by setting
it before the core moves again. It asks more than E3: an abandoned transfer breaks it. -/
def State.liveIsBusy (s : State) : Prop :=
  s.nextTurn = .core → ∀ d : Device, 0 < (s.descOf d).remain → s.isBusy d = true

/-- An infinite run of the machine. -/
def IsRun (r : Nat → State) : Prop := ∀ n : Nat, step (r n) = .next (r (n + 1))

/-- Assumption E6 on an infinite run: no device answers `busy` for ever. A device that is queried without end is answered
`not busy` without end (the trace of a run only grows). -/
def EventuallyFree (r : Nat → State) : Prop :=
  ∀ d : Device, (∀ k : Nat, ∃ n, k ≤ (r n).trace.countP (Event.asks d)) →
    ∀ k : Nat, ∃ n, k ≤ (r n).trace.countP (Event.frees d)

/-- How many words the rest of a transfer spans (R353: the buffer is the remaining units from the cursor, wrapping). -/
def Desc.span : Desc → Nat
  | .words _ n _ => n
  | .chars _ n _ p _ => (p.val + n + 4) / 5

/-- The cursor of a descriptor. -/
def Desc.cursor : Desc → Addr
  | .words _ _ a => a
  | .chars _ _ a _ _ => a

/-- Address `a` lies in the part of the buffer of `d` still to be transferred (R470). -/
def State.inLiveBuffer (s : State) (d : Device) (a : Addr) : Prop :=
  (a.val + 4000 - (s.descOf d).cursor.val) % 4000 < (s.descOf d).span

/-- No warning has been put out: the premise U1 of 93_implementation_defined.md offers. -/
def State.noWarning (s : State) : Prop := ∀ w : Warning, Event.warning w ∉ s.trace

/-- The core moves next, RUNNING, and no run transaction stops it: the step fetches and executes. -/
def State.runs (s : State) : Prop := s.nextTurn = .core ∧ s.rs = .running ∧ s.mayStep = true

end Sys2Proof.Machine
end

