-- ==== Sys2Proof/Certificates/Slice0/Obligations.lean ====
section
/-! DEFINITION. The statements for the provers. An instruction's statement gives the WHOLE next state: as a record update of
`s`, or as a state `t` whose other fields are said to be those of `s`. What a record update does not name is unchanged, so
each such statement is the instruction's frame too. "The same warnings" are those of R431 in the order of R432; they are
entries of the trace and change nothing else. -/

open Sys2Proof Sys2Proof.Machine

/-! ## Encoding -/

/-- Decoding the word of a well-formed instruction gives the instruction back, with every operand (R90, R100). The opcode
numbers are those the spec itself takes from general knowledge (log entry 15). -/
def Obligations.DecodeOfEncodeGivesTheInstructionBack : Prop :=
  ∀ i : Instr, WellFormed i → decode (encode i) = .ok i

/-- A word that decodes holds exactly one instruction: a well-formed one, whose word it is (R90, R100). The opcode
numbers are those the spec itself takes from general knowledge (log entry 15). -/
def Obligations.EncodeOfDecodeGivesTheWordBack : Prop :=
  ∀ (w : Word) (i : Instr), decode w = .ok i → WellFormed i ∧ encode i = w

/-- Words the spec writes out decode to the instructions it says they are: `LDA 2000,2(0:3)` (R112), `INCA 7` (R184),
`JAN 200` (R252), `STJ 100(0:2)` (R163), `SLC 501` (R320), `MOVE 1000(3)` (R344), `IN 1000(16)` (R355), `HLT` (R333). The
opcode numbers and the places of the fields are those the spec itself takes from general knowledge (log entry 15). -/
def Obligations.SpecWordsDecodeToTheirInstructions : Prop :=
  decodeTableWord 32 0x1F4020C8 = some (.lda ⟨false, 2000, 2⟩ 3) ∧
  decodeTableWord 32 0x001C0030 = some (.inca ⟨false, 7, 0⟩) ∧
  decodeTableWord 32 0x03200028 = some (.jan ⟨false, 200, 0⟩) ∧
  decodeTableWord 32 0x019000A0 = some (.stj ⟨false, 100, 0⟩ 2) ∧
  decodeTableWord 32 0x07D40106 = some (.slc ⟨false, 501, 0⟩) ∧
  decodeTableWord 32 0x0FA000C7 = some (.move ⟨false, 1000, 0⟩ 3) ∧
  decodeTableWord 32 0x0FA00424 = some (.inp ⟨false, 1000, 0⟩ 16) ∧
  decodeTableWord 32 0x00000085 = some (.hlt ⟨false, 0, 0⟩)

/-- The words that hold no instruction are exactly those whose (C, F) is matched by no row of R100: C = 5, 6, 39, 40..47
and 48..55 with F out of range, the unsupported sub-operations of row W5 of R431. The numbers are those the spec itself
takes from general knowledge (log entry 15). -/
def Obligations.RejectedWordsAreTheUnsupportedOnes : Prop :=
  ∀ w : Word,
    (∃ e, decode w = .error e) ↔
      (opcodeOf w = 5 ∧ 3 ≤ modifierOf w) ∨ (opcodeOf w = 6 ∧ 6 ≤ modifierOf w) ∨
      (opcodeOf w = 39 ∧ 10 ≤ modifierOf w) ∨
      (40 ≤ opcodeOf w ∧ opcodeOf w ≤ 47 ∧ 6 ≤ modifierOf w) ∨
      (48 ≤ opcodeOf w ∧ opcodeOf w ≤ 55 ∧ 4 ≤ modifierOf w)

/-- The 32-bit container of a word: bit 31 is the sign, bit 30 is 0, and the word is read back from it (R8, R46); bit 30 of
a container plays no part in the word it stands for (R105, R386; for a word that comes from a device the spec's decision
D28, log entries 17 and 25). -/
def Obligations.ContainerHoldsTheWordWithBit30Clear : Prop :=
  (∀ w : Word, Word.ofContainer w.toContainer = w ∧ w.toContainer.getLsbD 31 = w.neg ∧
    w.toContainer.getLsbD 30 = false) ∧
  ∀ c : BitVec 32, (Word.ofContainer c).toContainer = c &&& 0xBFFFFFFF#32

/-! ## The step -/

/-- Where the core moves and is RUNNING, and the word at pc decodes to `i`, the step is `exec i` at the state with IR, ppc
and pc as the fetch leaves them, and then CYC grows by `CycleCost` (R401). The turn taken leaves the schedule, and the
counter of free costs advances (log entries 6 and 9). -/
def Obligations.StepRunsTheDecodedInstruction : Prop :=
  ∀ (s : State) (i : Instr), s.runs → decode (s.readMem s.pc) = .ok i →
    let s1 : State := { s with
      sched := s.sched.tail, ir := s.readMem s.pc, ppc := s.pc, pc := ⟨(s.pc.val + 1) % 4000, Nat.mod_lt _ (by decide)⟩ }
    step s = match exec i s1 with
      | .next t => .next { t with cyc := t.cyc + cycleCost i s1, costTick := t.costTick + 1 }
      | .fault r => .fault r
      | .refused r => .refused r

/-- Where the word at pc is an unsupported sub-operation, the step warns W5, does nothing else and goes on at the next
address (R104). That M is not evaluated, so that neither W2 nor W3 comes, is the spec's decision D21 (log entry 27); the
cost is the free default cost (log entry 9). -/
def Obligations.UnsupportedSubOperationIsANoOperation : Prop :=
  ∀ (s : State) (e : DecodeError), s.runs → decode (s.readMem s.pc) = .error e →
    let s1 : State := { s with
      sched := s.sched.tail, ir := s.readMem s.pc, ppc := s.pc, pc := ⟨(s.pc.val + 1) % 4000, Nat.mod_lt _ (by decide)⟩ }
    step s = .next { s1 with
      trace := s.trace ++ [.warning .w5], cyc := s.cyc + Config.defaultCost e s1, costTick := s.costTick + 1 }

/-- Every step of every agent keeps the invariant: the memory canonical (log entry 1), every descriptor within its device's
mode and block (R40, R41, R350), and the waiting latch in agreement with the run state (R32). -/
def Obligations.EveryStepKeepsTheInvariant : Prop :=
  ∀ s t : State, s.Inv → step s = .next t → t.Inv

/-- The state after reset meets the invariant. -/
def Obligations.ResetMeetsTheInvariant : Prop := State.reset.Inv

/-- What reset leaves in every state element of R48: every descriptor idle, word slots 0..15 and character slots 16..20
(R41), of a direction R48 does not give (log entry 5). Every value is the spec's own decision D19 (log entries 2 and 3); the
run state is the open parameter RESET_RUN_STATE, RUNNING or HALT (log entry 4). And the host's `initialize` leads there from
every state (R412, R460); the environment's inputs, the turns to come, the trace and the count of costs stay as they are,
the model's choice (log entry 21). -/
def Obligations.ResetLeavesEverythingZero : Prop :=
  (∀ k : Reg, State.reset.reg k = ⟨false, 0#30⟩) ∧ State.reset.rJ = 0#12 ∧ State.reset.pc = 0 ∧ State.reset.ppc = 0 ∧
  State.reset.ir = ⟨false, 0#30⟩ ∧ State.reset.ov = false ∧ State.reset.ci = .equal ∧ State.reset.wn = false ∧
  State.reset.cyc = 0 ∧ (∀ a : Addr, State.reset.readMem a = ⟨false, 0#30⟩) ∧
  (∀ d : Device, ∃ dir : Direction,
    State.reset.descOf d = if d.val ≤ 15 then .words dir 0 0 else .chars dir 0 0 0 ⟨false, 0#30⟩) ∧
  (State.reset.rs = .running ∨ State.reset.rs = .halt) ∧
  ∀ s : State, s.nextTurn = .hostReset → step s = .next { State.reset with
    sched := s.sched.tail, busy := s.busy, signals := s.signals, trace := s.trace, costTick := s.costTick }

/-- In HALT the core's own move outside a run transaction changes nothing but that its turn is taken (R404; that it answers
a next state is log entry 11), and whatever any agent does, HALT is left only by boot or by initialize (R405, R412; the
spec's decision D32, log entry 27). -/
def Obligations.HaltIsLeftOnlyByBootOrInitialize : Prop :=
  ∀ s t : State, s.rs = .halt → step s = .next t →
    (s.nextTurn = .core → s.runBudget = none → t = { s with sched := s.sched.tail }) ∧
    (t.rs = .halt ∨ s.nextTurn = .hostBoot ∨ s.nextTurn = .hostReset)

/-- The WAIT_DEVICE(d) step: with the device busy nothing changes but that the budget is consumed; with it free the
notification is cleared and the core is RUNNING (R403). -/
def Obligations.WaitDeviceStepPollsTheDevice : Prop :=
  ∀ (s : State) (d : Device), s.nextTurn = .core → s.rs = .waitDevice d → s.mayStep = true →
    (s.busy[d.val] = true → step s = .next { s with
      sched := s.sched.tail, trace := s.trace ++ [.busyQuery d true], cyc := s.runBudget.getD s.cyc }) ∧
    (s.busy[d.val] = false → step s = .next { s with
      sched := s.sched.tail, trace := s.trace ++ [.busyQuery d false, .notifyWaiting d false], wn := false, rs := .running })

/-- The BOOT_READ(0) step (R406): with the card reader busy, one waiting notification and the budget consumed; with it
free, an 80-character read into address 0 is handed over and the core is in BOOT_READ(1). -/
def Obligations.BootReadZeroIssuesTheCardRead : Prop :=
  ∀ s : State, s.nextTurn = .core → s.rs = .bootRead0 → s.mayStep = true →
    (s.busy[16] = true → step s = .next { s with
      sched := s.sched.tail, wn := true, cyc := s.runBudget.getD s.cyc,
      trace := s.trace ++ [.busyQuery 16 true] ++ (if s.wn then [] else [.notifyWaiting 16 true]) }) ∧
    (s.busy[16] = false → step s = .next { s with
      sched := s.sched.tail, wn := false, rs := .bootRead1,
      desc := s.desc.set 16 (.chars .input 80 0 0 ⟨false, 0#30⟩),
      trace := s.trace ++ [.busyQuery 16 false] ++ (if s.wn then [.notifyWaiting 16 false] else []) ++
        [.beginCharIO 16 (.chars .input 80 0 0 ⟨false, 0#30⟩)] })

/-- The BOOT_READ(1) step (R407): with the card reader busy it waits the same way; with it free execution starts at 0 with
rJ = 0 and nothing else changed. -/
def Obligations.BootReadOneStartsExecutionAtZero : Prop :=
  ∀ s : State, s.nextTurn = .core → s.rs = .bootRead1 → s.mayStep = true →
    (s.busy[16] = true → step s = .next { s with
      sched := s.sched.tail, wn := true, cyc := s.runBudget.getD s.cyc,
      trace := s.trace ++ [.busyQuery 16 true] ++ (if s.wn then [] else [.notifyWaiting 16 true]) }) ∧
    (s.busy[16] = false → step s = .next { s with
      sched := s.sched.tail, wn := false, rs := .running, pc := 0, rJ := 0#12,
      trace := s.trace ++ [.busyQuery 16 false] ++ (if s.wn then [.notifyWaiting 16 false] else []) })

/-- The boot request is accepted in every state, leads to BOOT_READ(0) and keeps every register, flag, memory word and
descriptor; leaving a device wait it clears the notification, the spec's own decision D26 (R408). -/
def Obligations.BootRequestIsAcceptedInEveryState : Prop :=
  ∀ s : State, s.nextTurn = .hostBoot →
    (∀ d : Device, s.rs = .waitDevice d → s.wn = true → step s = .next { s with
      sched := s.sched.tail, rs := .bootRead0, wn := false, trace := s.trace ++ [.notifyWaiting d false] }) ∧
    ((∀ d : Device, s.rs = .waitDevice d → s.wn = false) → step s = .next { s with
      sched := s.sched.tail, rs := .bootRead0 })

/-- A run transaction begins with CYC = 0. Where its loop is over (the budget is reached, or RS = HALT) the next move of
the core is one stop check, which if it answers stop forces HALT and clears a wait's notification, and then `(CYC, RS =
HALT)` is returned (R410, R411; that the check is made once in every case is the spec's decision D25). -/
def Obligations.RunTransactionBeginsAndEnds : Prop :=
  (∀ (s : State) (b : Nat), s.nextTurn = .hostRun b → s.runBudget = none →
    step s = .next { s with sched := s.sched.tail, cyc := 0, runBudget := some b }) ∧
  (∀ (s : State) (b : Nat), s.nextTurn = .core → s.runBudget = some b → (b ≤ s.cyc ∨ s.rs = .halt) →
    (s.signals = none → step s = .next { s with
      sched := s.sched.tail, runBudget := none, trace := s.trace ++ [.runReturned s.cyc (decide (s.rs = .halt))] }) ∧
    (s.signals = some false → step s = .next { s with
      sched := s.sched.tail, runBudget := none,
      trace := s.trace ++ [.signalsChecked false, .runReturned s.cyc (decide (s.rs = .halt))] }) ∧
    (s.signals = some true → s.wn = false → step s = .next { s with
      sched := s.sched.tail, runBudget := none, rs := .halt,
      trace := s.trace ++ [.signalsChecked true, .runReturned s.cyc true] }) ∧
    (s.signals = some true → s.wn = true → ∀ d : Device,
      (s.rs = .waitDevice d ∨ (d = 16 ∧ (s.rs = .bootRead0 ∨ s.rs = .bootRead1))) → step s = .next { s with
        sched := s.sched.tail, runBudget := none, rs := .halt, wn := false,
        trace := s.trace ++ [.signalsChecked true, .notifyWaiting d false, .runReturned s.cyc true] }))

/-! ## Loads and stores -/

/-- LDA, LD1..LD6, LDX: the register takes the field of the word at M, the warnings are W1, W2, W3, and nothing else
changes (40_field_loadstore.md section 3). That LD1..LD6 keep the whole word, with no narrowing, is the spec's decision D4
(R22, R131), and the sign of a loaded zero its decision D5 (R120; log entry 17). -/
def Obligations.LoadsTakeTheField : Prop :=
  ∀ (k : Reg) (m : AddrSpec) (f : Nat) (s : State),
    exec (.ldOf k m f) s = .next { s with
      regs := s.regs.set k (fieldLoad (s.readMem (s.mAddr m)) (fieldSpec f)),
      trace := s.trace ++ (s.operandWarnings m f).map Event.warning }

/-- LDAN, LD1N..LD6N, LDXN: as the loads with the sign bit flipped, also of zero (40_field_loadstore.md section 4). The
instructions and the flip of a zero are the spec's decision D6, that LD1N..LD6N keep the whole word, with no narrowing, its
decision D4 (R22), and the sign of a zero before the flip its decision D5 (R120; log entry 17). -/
def Obligations.LoadNegativesFlipTheSign : Prop :=
  ∀ (k : Reg) (m : AddrSpec) (f : Nat) (s : State),
    exec (.ldnOf k m f) s = .next { s with
      regs := s.regs.set k ⟨!(fieldLoad (s.readMem (s.mAddr m)) (fieldSpec f)).neg,
        (fieldLoad (s.readMem (s.mAddr m)) (fieldSpec f)).mag⟩,
      trace := s.trace ++ (s.operandWarnings m f).map Event.warning }

/-- STA, ST1..ST6, STX: the word at M has its field replaced, every other address reads as before, and nothing else
changes (40_field_loadstore.md section 5). That ST1..ST6 store from a whole word is the spec's decision D4 (R22; log
entry 17). -/
def Obligations.StoresReplaceTheFieldAtMOnly : Prop :=
  ∀ (k : Reg) (m : AddrSpec) (f : Nat) (s : State), Memory.wf s.mem = true →
    ∃ t : State, exec (.stOf k m f) s = .next t ∧
      t.readMem (s.mAddr m) = fieldStore (s.readMem (s.mAddr m)) (fieldSpec f) (s.reg k) ∧
      (∀ a : Addr, a ≠ s.mAddr m → t.readMem a = s.readMem a) ∧
      t = { s with mem := t.mem, trace := s.trace ++ (s.operandWarnings m f).map Event.warning }

/-- STJ stores `word(0, rJ)` and STZ stores +0, each by field at M only (R163, R164; the two instructions are the spec's
own decision D30). -/
def Obligations.StoreJumpAndStoreZeroAtMOnly : Prop :=
  ∀ (m : AddrSpec) (f : Nat) (s : State), Memory.wf s.mem = true →
    (∃ t : State, exec (.stj m f) s = .next t ∧
      t.readMem (s.mAddr m) = fieldStore (s.readMem (s.mAddr m)) (fieldSpec f) ⟨false, s.rJ.setWidth 30⟩ ∧
      (∀ a : Addr, a ≠ s.mAddr m → t.readMem a = s.readMem a) ∧
      t = { s with mem := t.mem, trace := s.trace ++ (s.operandWarnings m f).map Event.warning }) ∧
    (∃ t : State, exec (.stz m f) s = .next t ∧
      t.readMem (s.mAddr m) = fieldStore (s.readMem (s.mAddr m)) (fieldSpec f) ⟨false, 0#30⟩ ∧
      (∀ a : Addr, a ≠ s.mAddr m → t.readMem a = s.readMem a) ∧
      t = { s with mem := t.mem, trace := s.trace ++ (s.operandWarnings m f).map Event.warning })

/-- A field load, byte by byte: bytes L..R of the word stand right-aligned, the bytes to their left are 0, the sign is the
word's exactly if L = 0, and a field with R = 0 loads as +0 (R120; the sign of a zero field is the spec's decision D5). -/
def Obligations.FieldLoadRightAlignsTheBytes : Prop :=
  ∀ (w : Word) (l r : Nat), l ≤ r → r ≤ 5 →
    (r = 0 → fieldLoad w ⟨l, r⟩ = ⟨false, 0#30⟩) ∧
    (0 < r → (fieldLoad w ⟨l, r⟩).neg = (decide (l = 0) && w.neg)) ∧
    ∀ j : Nat, 1 ≤ j → j ≤ 5 →
      (fieldLoad w ⟨l, r⟩).byte j = if max l 1 + 5 ≤ j + r then w.byte (j + r - 5) else 0

/-- A field store, byte by byte: bytes L..R take the rightmost bytes of the source, every other byte is kept, and the sign
is the source's exactly if L = 0 (R121). -/
def Obligations.FieldStoreReplacesTheBytes : Prop :=
  ∀ (w v : Word) (l r : Nat), l ≤ r → r ≤ 5 →
    (fieldStore w ⟨l, r⟩ v).neg = (if l = 0 then v.neg else w.neg) ∧
    ∀ j : Nat, 1 ≤ j → j ≤ 5 →
      (fieldStore w ⟨l, r⟩ v).byte j = if max l 1 ≤ j ∧ j ≤ r then v.byte (j + 5 - r) else w.byte j

/-- The round-trip law (R127, derived in the spec from R120 and R121): storing a loaded field elsewhere copies the selected
bytes and keeps the others; the sign is W's when L = 0 and R is at least 1, W's target's when L is at least 1, and `+`
for (0:0). The sign of a loaded zero is the spec's decision D5 (R120; log entry 17). -/
def Obligations.StoreOfLoadCopiesTheField : Prop :=
  ∀ (w w' : Word) (l r : Nat), l ≤ r → r ≤ 5 →
    (∀ j : Nat, 1 ≤ j → j ≤ 5 → (fieldStore w' ⟨l, r⟩ (fieldLoad w ⟨l, r⟩)).byte j =
      if max l 1 ≤ j ∧ j ≤ r then w.byte j else w'.byte j) ∧
    (fieldStore w' ⟨l, r⟩ (fieldLoad w ⟨l, r⟩)).neg = if l = 0 then (decide (0 < r) && w.neg) else w'.neg

/-! ## Arithmetic -/

/-- ADD and SUB (R171 to R173): rA takes the exact sum re-encoded, OV is set if its magnitude exceeds 2^30-1 and kept
otherwise, and nothing else changes. The signs of zero and overflowed results are the spec's decision D7. -/
def Obligations.AddAndSubtractReencodeTheExactSum : Prop :=
  ∀ (m : AddrSpec) (f : Nat) (s : State),
    let after : Int → State := fun v => { s with
      regs := { s.regs with rA := ⟨decide (v < 0), BitVec.ofNat 30 v.natAbs⟩ },
      ov := s.ov || decide (2 ^ 30 - 1 < v.natAbs),
      trace := s.trace ++ (s.operandWarnings m f).map Event.warning }
    exec (.add m f) s = .next (after (s.regs.rA.val + (s.operand m f).val)) ∧
    exec (.sub m f) s = .next (after (s.regs.rA.val - (s.operand m f).val))

/-- The sum is exact where it fits 30 bits, and where it does not exactly 2^30 of magnitude is lost and OV is set; a zero
sum is +0 (R182 and T2 of 95_test_vectors.md; D7). -/
def Obligations.AdditionIsExactOrSetsOverflow : Prop :=
  ∀ (m : AddrSpec) (f : Nat) (s t : State), exec (.add m f) s = .next t →
    let v := s.regs.rA.val + (s.operand m f).val
    (v.natAbs ≤ 2 ^ 30 - 1 → t.regs.rA.val = v ∧ t.ov = s.ov) ∧
    (2 ^ 30 ≤ v.natAbs → t.ov = true ∧ t.regs.rA.val = if v < 0 then v + 2 ^ 30 else v - 2 ^ 30) ∧
    (v = 0 → t.regs.rA = ⟨false, 0#30⟩)

/-- MUL (R174): rA:rX holds the exact product's magnitude, both signs are the product's, `+` for a zero product (the
spec's decision D8), and nothing else changes. -/
def Obligations.MultiplyGivesTheExactProduct : Prop :=
  ∀ (m : AddrSpec) (f : Nat) (s : State), ∃ t : State, exec (.mul m f) s = .next t ∧
    t.regs.rA.magnitude * 2 ^ 30 + t.regs.rX.magnitude = s.regs.rA.magnitude * (s.operand m f).magnitude ∧
    t.regs.rA.neg = decide (s.regs.rA.val * (s.operand m f).val < 0) ∧ t.regs.rX.neg = t.regs.rA.neg ∧
    t = { s with
      regs := { s.regs with rA := t.regs.rA, rX := t.regs.rX },
      trace := s.trace ++ (s.operandWarnings m f).map Event.warning }

/-- DIV where the quotient fits (R175): rA is the quotient and rX the remainder of the 60-bit magnitude rA:rX by V, signed
by the sign bits, and nothing else changes. -/
def Obligations.DivideGivesQuotientAndRemainder : Prop :=
  ∀ (m : AddrSpec) (f : Nat) (s : State), s.regs.rA.magnitude < (s.operand m f).magnitude →
    ∃ t : State, exec (.div m f) s = .next t ∧
      s.regs.rA.magnitude * 2 ^ 30 + s.regs.rX.magnitude =
        t.regs.rA.magnitude * (s.operand m f).magnitude + t.regs.rX.magnitude ∧
      t.regs.rX.magnitude < (s.operand m f).magnitude ∧
      t.regs.rA.neg = (s.regs.rA.neg != (s.operand m f).neg) ∧ t.regs.rX.neg = s.regs.rA.neg ∧
      t = { s with
        regs := { s.regs with rA := t.regs.rA, rX := t.regs.rX },
        trace := s.trace ++ (s.operandWarnings m f).map Event.warning }

/-- DIV by zero, or with a quotient that does not fit: OV is set, and rA, rX and all else stay; that rA and rX stay is the
spec's decision D9 and its resolution C3 (R176). -/
def Obligations.ImpossibleDivideOnlySetsOverflow : Prop :=
  ∀ (m : AddrSpec) (f : Nat) (s : State),
    ((s.operand m f).magnitude = 0 ∨ (s.operand m f).magnitude ≤ s.regs.rA.magnitude) →
    exec (.div m f) s = .next { s with
      ov := true, trace := s.trace ++ (s.operandWarnings m f).map Event.warning }

/-- A MUL and then a DIV by the same operand, not zero, recover the value of rA with remainder 0 and leave OV alone (T3 of
95_test_vectors.md). -/
def Obligations.MultiplyThenDivideRecoversTheFactor : Prop :=
  ∀ (m : AddrSpec) (f : Nat) (s : State), (s.operand m f).magnitude ≠ 0 →
    ∃ t u : State, exec (.mul m f) s = .next t ∧ exec (.div m f) t = .next u ∧
      u.regs.rA.val = s.regs.rA.val ∧ u.regs.rX.magnitude = 0 ∧ u.ov = s.ov ∧ u.mem = s.mem

/-- INCr and DECr for all eight registers (R178): the exact sum with M (unclamped) re-encoded, OV set on overflow, the
warning W2, and nothing else. That M is unclamped is the spec's decision D11 (R125), that 30 bits bound every register its
decision D4 (R22), and the sign of a zero or overflowed result its decision D7 (R9, R171; log entry 17). -/
def Obligations.IncrementAndDecrementByM : Prop :=
  ∀ (k : Reg) (m : AddrSpec) (s : State),
    let after : Int → State := fun v => { s with
      regs := s.regs.set k ⟨decide (v < 0), BitVec.ofNat 30 v.natAbs⟩,
      ov := s.ov || decide (2 ^ 30 - 1 < v.natAbs),
      trace := s.trace ++ (if 6 < m.idx then [.warning .w2] else []) }
    exec (.incOf k m) s = .next (after ((s.reg k).val + s.mRaw m)) ∧
    exec (.decOf k m) s = .next (after ((s.reg k).val - s.mRaw m))

/-- ENTr and ENNr for all eight registers (R179): M or -M with magnitude mod 2^30; where M is 0 a zero with the
instruction's own sign bit, complemented for ENN; OV untouched. The reading of the sign rule is the spec's decision D10,
that M is unclamped its decision D11 (R125), and that an index register takes all 30 bits its decision D4 (R22; log entry
17). -/
def Obligations.EnterAndEnterNegativeLoadM : Prop :=
  ∀ (k : Reg) (m : AddrSpec) (s : State),
    let after : Bool → State := fun neg => { s with
      regs := s.regs.set k ⟨neg, BitVec.ofNat 30 (s.mRaw m).natAbs⟩,
      trace := s.trace ++ (if 6 < m.idx then [.warning .w2] else []) }
    (s.mRaw m ≠ 0 → exec (.entOf k m) s = .next (after (decide (s.mRaw m < 0))) ∧
      exec (.ennOf k m) s = .next (after (decide (0 < s.mRaw m)))) ∧
    (s.mRaw m = 0 → exec (.entOf k m) s = .next (after m.neg) ∧ exec (.ennOf k m) s = .next (after (!m.neg)))

/-! ## Compare and jumps -/

/-- CMPA, CMP1..CMP6, CMPX: CI takes the order, as signed numbers, of the same field of the register and of the word at M;
EQUAL where R = 0; nothing else changes (R230). That +0 and -0 compare EQUAL is the spec's decision D12, and that CMP1..CMP6
compare the index register as a whole word its decision D4 (R22, R232; log entry 17). -/
def Obligations.ComparesOrderTheSameFields : Prop :=
  ∀ (k : Reg) (m : AddrSpec) (f : Nat) (s : State),
    let after : Comparison → State := fun c => { s with
      ci := c, trace := s.trace ++ (s.operandWarnings m f).map Event.warning }
    let x := (fieldLoad (s.reg k) (fieldSpec f)).val
    let y := (fieldLoad (s.readMem (s.mAddr m)) (fieldSpec f)).val
    (x < y → exec (.cmpOf k m f) s = .next (after .less)) ∧
    (x = y → exec (.cmpOf k m f) s = .next (after .equal)) ∧
    (y < x → exec (.cmpOf k m f) s = .next (after .greater)) ∧
    ((fieldSpec f).r = 0 → exec (.cmpOf k m f) s = .next (after .equal))

/-- JMP saves the advanced pc in rJ and goes to M (R241); JSJ goes to M without saving (R242). -/
def Obligations.JumpSavesAndJsjDoesNot : Prop :=
  ∀ (m : AddrSpec) (s : State),
    exec (.jmp m) s = .next { s with
      rJ := BitVec.ofNat 12 s.pc.val, pc := s.mAddr m, trace := s.trace ++ (s.addrWarnings m).map Event.warning } ∧
    exec (.jsj m) s = .next { s with
      pc := s.mAddr m, trace := s.trace ++ (s.addrWarnings m).map Event.warning }

/-- JOV and JNOV test OV and clear it, whether they jump or not (R243, R244). That M is evaluated, and may warn, where the
jump is not taken is the spec's decision D21 (R240; log entry 27). -/
def Obligations.OverflowJumpsTestAndClear : Prop :=
  ∀ (m : AddrSpec) (s : State),
    let fall : State := { s with ov := false, trace := s.trace ++ (s.addrWarnings m).map Event.warning }
    let taken : State := { fall with rJ := BitVec.ofNat 12 s.pc.val, pc := s.mAddr m }
    exec (.jov m) s = .next (if s.ov then taken else fall) ∧
    exec (.jnov m) s = .next (if s.ov then fall else taken)

/-- JL, JE, JG, JGE, JNE, JLE jump on CI and change neither CI nor anything else but rJ and pc (R245 to R250). That M is
evaluated, and may warn, where the jump is not taken is the spec's decision D21 (R240; log entry 27). -/
def Obligations.ComparisonJumpsReadTheIndicator : Prop :=
  ∀ (m : AddrSpec) (s : State),
    let fall : State := { s with trace := s.trace ++ (s.addrWarnings m).map Event.warning }
    let taken : State := { fall with rJ := BitVec.ofNat 12 s.pc.val, pc := s.mAddr m }
    exec (.jl m) s = .next (if s.ci = .less then taken else fall) ∧
    exec (.je m) s = .next (if s.ci = .equal then taken else fall) ∧
    exec (.jg m) s = .next (if s.ci = .greater then taken else fall) ∧
    exec (.jge m) s = .next (if s.ci = .less then fall else taken) ∧
    exec (.jne m) s = .next (if s.ci = .equal then fall else taken) ∧
    exec (.jle m) s = .next (if s.ci = .greater then fall else taken)

/-- JrN, JrZ, JrP, JrNN, JrNZ, JrNP for all eight registers jump on the signed value of the register, for which both zeros
are 0, and change nothing but rJ and pc (R251 to R299). That M is evaluated, and may warn, where the jump is not taken is
the spec's decision D21 (R240; log entry 27), and that an index register is a whole word its decision D4 (R22; log entry
17). -/
def Obligations.RegisterJumpsTestTheSignedValue : Prop :=
  ∀ (k : Reg) (m : AddrSpec) (s : State),
    let fall : State := { s with trace := s.trace ++ (s.addrWarnings m).map Event.warning }
    let taken : State := { fall with rJ := BitVec.ofNat 12 s.pc.val, pc := s.mAddr m }
    let v := (s.reg k).val
    exec (.jnOf k m) s = .next (if v < 0 then taken else fall) ∧
    exec (.jzOf k m) s = .next (if v = 0 then taken else fall) ∧
    exec (.jpOf k m) s = .next (if 0 < v then taken else fall) ∧
    exec (.jnnOf k m) s = .next (if 0 ≤ v then taken else fall) ∧
    exec (.jnzOf k m) s = .next (if v ≠ 0 then taken else fall) ∧
    exec (.jnpOf k m) s = .next (if v ≤ 0 then taken else fall)

/-! ## Shifts -/

/-- SLA and SRA by n bytes, n at least 0: the five bytes of rA move by n places, zeros enter, bytes shifted out are lost,
the sign of rA stays, and nothing else changes (R310 to R313). That a count is in bytes is the spec's decision D13 (R310;
log entry 17). -/
def Obligations.ShiftsOfAMoveItsBytes : Prop :=
  ∀ (m : AddrSpec) (s : State) (n : Nat), s.mRaw m = (n : Int) →
    (∃ t : State, exec (.sla m) s = .next t ∧
      t.regs.rA.bytes = s.regs.rA.bytes.drop n ++ List.replicate (min n 5) 0 ∧ t.regs.rA.neg = s.regs.rA.neg ∧
      t = { s with
        regs := { s.regs with rA := t.regs.rA }, trace := s.trace ++ (if 6 < m.idx then [.warning .w2] else []) }) ∧
    (∃ t : State, exec (.sra m) s = .next t ∧
      t.regs.rA.bytes = List.replicate (min n 5) 0 ++ s.regs.rA.bytes.take (5 - n) ∧ t.regs.rA.neg = s.regs.rA.neg ∧
      t = { s with
        regs := { s.regs with rA := t.regs.rA }, trace := s.trace ++ (if 6 < m.idx then [.warning .w2] else []) })

/-- SLAX and SRAX by n bytes, n at least 0: the ten bytes of rA:rX move by n places, zeros enter, both signs stay, and
nothing else changes (R310, R311, R314, R315). That a count is in bytes, and clamped for the pair, is the spec's decision
D13 (R310; log entry 17). -/
def Obligations.ShiftsOfThePairMoveItsBytes : Prop :=
  ∀ (m : AddrSpec) (s : State) (n : Nat), s.mRaw m = (n : Int) →
    (∃ t : State, exec (.slax m) s = .next t ∧
      t.regs.rA.bytes ++ t.regs.rX.bytes =
        (s.regs.rA.bytes ++ s.regs.rX.bytes).drop n ++ List.replicate (min n 10) 0 ∧
      t.regs.rA.neg = s.regs.rA.neg ∧ t.regs.rX.neg = s.regs.rX.neg ∧
      t = { s with
        regs := { s.regs with rA := t.regs.rA, rX := t.regs.rX },
        trace := s.trace ++ (if 6 < m.idx then [.warning .w2] else []) }) ∧
    (∃ t : State, exec (.srax m) s = .next t ∧
      t.regs.rA.bytes ++ t.regs.rX.bytes =
        List.replicate (min n 10) 0 ++ (s.regs.rA.bytes ++ s.regs.rX.bytes).take (10 - n) ∧
      t.regs.rA.neg = s.regs.rA.neg ∧ t.regs.rX.neg = s.regs.rX.neg ∧
      t = { s with
        regs := { s.regs with rA := t.regs.rA, rX := t.regs.rX },
        trace := s.trace ++ (if 6 < m.idx then [.warning .w2] else []) })

/-- SLC and SRC by n bytes, n at least 0: the ten bytes of rA:rX rotate by n mod 10 places, both signs stay, and nothing
else changes (R310, R311, R316, R317). That a count is in bytes is the spec's decision D13 (R310; log entry 17). -/
def Obligations.RotationsOfThePairRotateItsBytes : Prop :=
  ∀ (m : AddrSpec) (s : State) (n : Nat), s.mRaw m = (n : Int) →
    (∃ t : State, exec (.slc m) s = .next t ∧
      t.regs.rA.bytes ++ t.regs.rX.bytes =
        (s.regs.rA.bytes ++ s.regs.rX.bytes).drop (n % 10) ++ (s.regs.rA.bytes ++ s.regs.rX.bytes).take (n % 10) ∧
      t.regs.rA.neg = s.regs.rA.neg ∧ t.regs.rX.neg = s.regs.rX.neg ∧
      t = { s with
        regs := { s.regs with rA := t.regs.rA, rX := t.regs.rX },
        trace := s.trace ++ (if 6 < m.idx then [.warning .w2] else []) }) ∧
    (∃ t : State, exec (.src m) s = .next t ∧
      t.regs.rA.bytes ++ t.regs.rX.bytes =
        (s.regs.rA.bytes ++ s.regs.rX.bytes).drop (10 - n % 10) ++
          (s.regs.rA.bytes ++ s.regs.rX.bytes).take (10 - n % 10) ∧
      t.regs.rA.neg = s.regs.rA.neg ∧ t.regs.rX.neg = s.regs.rX.neg ∧
      t = { s with
        regs := { s.regs with rA := t.regs.rA, rX := t.regs.rX },
        trace := s.trace ++ (if 6 < m.idx then [.warning .w2] else []) })

/-- A negative shift count warns W6 and does nothing, for each of the six shifts (R310). -/
def Obligations.NegativeShiftCountDoesNothing : Prop :=
  ∀ (m : AddrSpec) (s : State), s.mRaw m < 0 →
    ∀ i ∈ [Instr.sla m, .sra m, .slax m, .srax m, .slc m, .src m],
      exec i s = .next { s with
        trace := s.trace ++ (if 6 < m.idx then [.warning .w2] else []) ++ [.warning .w6] }

/-- Shifts of the pair compose (R319, derived in the spec): by c1 and then by c2 is by c1 + c2 for the non-circular forms,
and an SLC by c is an SRC by 10 - c. Counts are direct, without an index. That a count is in bytes is the spec's decision
D13 (R310; log entry 17). -/
def Obligations.ShiftCountsAdd : Prop :=
  (∀ (c1 c2 : Nat) (s t u : State),
    exec (.slax ⟨false, c1, 0⟩) s = .next t → exec (.slax ⟨false, c2, 0⟩) t = .next u →
    exec (.slax ⟨false, c1 + c2, 0⟩) s = .next u) ∧
  (∀ (c1 c2 : Nat) (s t u : State),
    exec (.srax ⟨false, c1, 0⟩) s = .next t → exec (.srax ⟨false, c2, 0⟩) t = .next u →
    exec (.srax ⟨false, c1 + c2, 0⟩) s = .next u) ∧
  (∀ (c : Nat) (s : State), c ≤ 10 → exec (.slc ⟨false, c, 0⟩) s = exec (.src ⟨false, 10 - c, 0⟩) s)

/-! ## NOP, NUM, CHAR, HLT, MOVE -/

/-- NOP changes nothing, whatever its fields (R330, the spec's decision D30); HLT changes the run state to HALT and
nothing else (R333). -/
def Obligations.NopChangesNothingAndHltHalts : Prop :=
  (∀ (m : AddrSpec) (f : Nat) (s : State), exec (.nop m f) s = .next s) ∧
  (∀ (m : AddrSpec) (s : State), exec (.hlt m) s = .next { s with rs := .halt })

/-- NUM: rA's magnitude becomes the number whose ten decimal digits are the bytes of rA and rX, each mod 10, kept to 30
bits; its sign and all else stay (R331). -/
def Obligations.NumReadsTenDecimalDigits : Prop :=
  ∀ (m : AddrSpec) (s : State),
    let a := fun k => s.regs.rA.byte k % 10
    let x := fun k => s.regs.rX.byte k % 10
    exec (.num m) s = .next { s with
      regs := { s.regs with rA := ⟨s.regs.rA.neg, BitVec.ofNat 30
        (a 1 * 10 ^ 9 + a 2 * 10 ^ 8 + a 3 * 10 ^ 7 + a 4 * 10 ^ 6 + a 5 * 10 ^ 5 +
          x 1 * 10 ^ 4 + x 2 * 10 ^ 3 + x 3 * 10 ^ 2 + x 4 * 10 + x 5)⟩ } }

/-- CHAR: byte k of rA is the code of digit k, and byte k of rX that of digit 5 + k, of the ten decimal digits of rA's
magnitude; both signs and all else stay (R332). The code 30 of the digit 0 is general knowledge in the spec (log entry
26). -/
def Obligations.CharWritesTenDigitCodes : Prop :=
  ∀ (m : AddrSpec) (s : State), ∃ t : State, exec (.char m) s = .next t ∧
    (∀ k : Nat, 1 ≤ k → k ≤ 5 →
      t.regs.rA.byte k = 30 + s.regs.rA.magnitude / 10 ^ (10 - k) % 10 ∧
      t.regs.rX.byte k = 30 + s.regs.rA.magnitude / 10 ^ (5 - k) % 10) ∧
    t.regs.rA.neg = s.regs.rA.neg ∧ t.regs.rX.neg = s.regs.rX.neg ∧
    t = { s with regs := { s.regs with rA := t.regs.rA, rX := t.regs.rX } }

/-- CHAR and then NUM restore rA and leave both signs as they were (R334, derived in the spec). It rests on
the code 30 of the digit 0, general knowledge in the spec (log entry 26). -/
def Obligations.NumAfterCharRestoresA : Prop :=
  ∀ (m n : AddrSpec) (s : State), ∃ t u : State, exec (.char m) s = .next t ∧ exec (.num n) t = .next u ∧
    u.regs.rA = s.regs.rA ∧ u.regs.rX.neg = s.regs.rX.neg

/-- MOVE of f words, 1 to 63, with M at least 0: word j of the destination takes word j of the source as it then stands
(so a source word that an earlier word of the same MOVE has overwritten is read as overwritten), every address outside
the destination reads as before, rI[1] points past the last word with sign `+`, and nothing else changes. Source and
destination are clamped, cursors wrap (R340 to R342; the order, the clamps and the final rI[1] are the spec's decision
D14). -/
def Obligations.MoveCopiesWordByWord : Prop :=
  ∀ (m : AddrSpec) (f : Nat) (s : State), Memory.wf s.mem = true → 1 ≤ f → f ≤ 63 → 0 ≤ s.mRaw m →
    let src : Nat := if s.mRaw m ≤ 3999 then (s.mRaw m).toNat else 3999
    let dst : Nat := if s.regs.rI1.magnitude ≤ 3999 then s.regs.rI1.magnitude else 3999
    ∃ t : State, exec (.move m f) s = .next t ∧
      (∀ j : Nat, j < f → Memory.read t.mem ((dst + j) % 4000) =
        if (src + 4000 + j - dst) % 4000 < j then Memory.read t.mem ((src + j) % 4000)
        else Memory.read s.mem ((src + j) % 4000)) ∧
      (∀ a : Addr, (∀ j : Nat, j < f → a.val ≠ (dst + j) % 4000) → t.readMem a = s.readMem a) ∧
      t = { s with
        mem := t.mem, regs := { s.regs with rI1 := ⟨false, BitVec.ofNat 30 ((dst + f) % 4000)⟩ },
        trace := s.trace ++ (if 6 < m.idx then [.warning .w2] else []) ++
          (if 3999 < s.mRaw m then [.warning .w3] else []) ++
          (if s.regs.rI1.val < 0 then [.warning .w7] else []) ++
          (if 3999 < s.regs.rI1.magnitude then [.warning .w3] else []) }

/-- MOVE with F = 0 changes nothing and does not warn; with F not 0 and a negative M it warns W6 and changes nothing (R340,
the spec's decision D14). -/
def Obligations.MoveWithNoWordsOrNegativeSourceDoesNothing : Prop :=
  ∀ (m : AddrSpec) (f : Nat) (s : State),
    (f = 0 → exec (.move m f) s = .next s) ∧
    (f ≠ 0 → s.mRaw m < 0 → exec (.move m f) s = .next { s with
      trace := s.trace ++ (if 6 < m.idx then [.warning .w2] else []) ++ [.warning .w6] })

/-! ## Input and output -/

/-- IN and OUT on a valid device that is free: the descriptor of a block at the clamped M is built and handed over, in the
device's mode, and no register, flag or memory word changes (R353). That this holds for every device in both directions (IN
from the printer, OUT to the reader) is the spec's decision D15 (R357; log entry 27). -/
def Obligations.InAndOutHandOverADescriptor : Prop :=
  ∀ (m : AddrSpec) (d : Device) (s : State), s.busy[d.val] = false →
    let units : Nat := if d.val ≤ 15 then 100 else if d.val ≤ 17 then 80 else if d.val = 18 then 120 else 70
    let after : Direction → State := fun dir =>
      let e : Desc := if d.val ≤ 15 then .words dir units (s.mAddr m) else .chars dir units (s.mAddr m) 0 ⟨false, 0#30⟩
      { s with
        desc := s.desc.set d.val e,
        trace := s.trace ++ [.busyQuery d false] ++ (s.addrWarnings m).map Event.warning ++
          [if d.val ≤ 15 then .beginWordIO d e else .beginCharIO d e] }
    exec (.inp m d.val) s = .next (after .input) ∧ exec (.out m d.val) s = .next (after .output)

/-- IOC on a valid device that is free issues the tape or printer operation M selects, or warns W8, and changes nothing
else (R360). M = 0 meaning rewind is general knowledge in the spec (log entry 15). -/
def Obligations.IocIssuesTheControlOperation : Prop :=
  ∀ (m : AddrSpec) (d : Device) (s : State), s.busy[d.val] = false →
    let after : Event → State := fun e => { s with
      trace := s.trace ++ [.busyQuery d false] ++ (if 6 < m.idx then [.warning .w2] else []) ++ [e] }
    (d.val ≤ 7 →
      (s.mRaw m = 0 → exec (.ioc m d.val) s = .next (after (.deviceControl (.rewind d)))) ∧
      (s.mRaw m < 0 → exec (.ioc m d.val) s =
        .next (after (.deviceControl (.skipBackward d (100 * (-(s.mRaw m)).toNat))))) ∧
      (0 < s.mRaw m → exec (.ioc m d.val) s =
        .next (after (.deviceControl (.skipForward d (100 * (s.mRaw m).toNat)))))) ∧
    (d.val = 18 →
      (s.mRaw m = 0 → exec (.ioc m d.val) s = .next (after (.deviceControl .skipToNextPage))) ∧
      (s.mRaw m ≠ 0 → exec (.ioc m d.val) s = .next (after (.warning .w8)))) ∧
    (7 < d.val → d.val ≠ 18 → exec (.ioc m d.val) s = .next (after (.warning .w8)))

/-- An invalid device id makes each of the five I/O instructions a no-operation with W4: no query, no jump, no wait (R351;
for JBUS and JRED the spec's decision D17). -/
def Obligations.InvalidDeviceIsANoOperation : Prop :=
  ∀ (m : AddrSpec) (f : Nat) (s : State), 20 < f →
    ∀ i ∈ [Instr.inp m f, .out m f, .ioc m f, .jbus m f, .jred m f],
      exec i s = .next { s with trace := s.trace ++ [.warning .w4] }

/-- A RUNNING step that fetches an IN, OUT or IOC on a valid busy device rolls back: pc is where it was, the core waits for
the device, the environment is notified, and nothing else changes but ppc, IR and the latch; the pass evaluates no address
(R352). That the pass costs 0 cycles in all rests on the fetch costing nothing of its own (log entry 9; R352 says 0 beyond
the fetch), and that IOC waits whatever its operation is the spec's decision D16 (log entry 27). -/
def Obligations.BusyDeviceRollsTheInstructionBack : Prop :=
  ∀ (m : AddrSpec) (d : Device) (s : State), s.runs → s.busy[d.val] = true →
    ∀ i ∈ [Instr.inp m d.val, .out m d.val, .ioc m d.val], decode (s.readMem s.pc) = .ok i →
      step s = .next { s with
        sched := s.sched.tail, ir := s.readMem s.pc, ppc := s.pc, rs := .waitDevice d, wn := true,
        trace := s.trace ++ [.busyQuery d true, .notifyWaiting d true], costTick := s.costTick + 1 }

/-- JBUS jumps if the device is busy, JRED if it is not; each makes one query, never waits, and changes nothing but rJ and
pc (R370 to R372). That M is evaluated, and may warn, where the jump is not taken is the spec's decision D21 (R240; log
entry 27), and that the query comes after the warnings of M is log entry 14. -/
def Obligations.DeviceJumpsQueryOnce : Prop :=
  ∀ (m : AddrSpec) (d : Device) (s : State),
    let fall : State := { s with
      trace := s.trace ++ (s.addrWarnings m).map Event.warning ++ [.busyQuery d s.busy[d.val]] }
    let taken : State := { fall with rJ := BitVec.ofNat 12 s.pc.val, pc := s.mAddr m }
    exec (.jbus m d.val) s = .next (if s.busy[d.val] = true then taken else fall) ∧
    exec (.jred m d.val) s = .next (if s.busy[d.val] = true then fall else taken)

/-- An adapter call that is answered takes the lesser of its count and the remaining count off the remaining count,
returns the new one, and touches nothing but that descriptor and, for an input, memory; where that lesser count is 0
nothing moves (R380). -/
def Obligations.AdapterCallsTouchOnlyTheDescriptorAndMemory : Prop :=
  ∀ (d : Device) (c : AdapterCall) (s t : State), adapterStep d c s = .next t →
    (t.descOf d).remain = (s.descOf d).remain - min c.count (s.descOf d).remain ∧
    (t.descOf d).direction = (s.descOf d).direction ∧
    (∀ e : Device, e ≠ d → t.descOf e = s.descOf e) ∧
    t.trace.getLast? = some (.adapterReturned d (t.descOf d).remain) ∧
    (min c.count (s.descOf d).remain = 0 → t.mem = s.mem ∧ t.desc = s.desc) ∧
    t = { s with mem := t.mem, desc := t.desc, trace := t.trace } ∧
    ((s.descOf d).direction = .output → t.mem = s.mem)

/-- `read_words` delivers the containers of the words from the cursor on (R383), and `write_words` stores the given
containers, bit 30 cleared, from the cursor on and changes no other word (R386); the cursor wraps. That bit 30 is cleared,
and every other bit kept, is the spec's decision D28 (log entry 17). -/
def Obligations.WordAdaptersMoveWordsFromTheCursor : Prop :=
  (∀ (d : Device) (n r : Nat) (a : Addr) (s : State), s.descOf d = .words .output r a → 1 ≤ min n r →
    adapterStep d (.readWords n) s = .next { s with
      desc := s.desc.set d.val (.words .output (r - min n r) ⟨(a.val + min n r) % 4000, Nat.mod_lt _ (by decide)⟩),
      trace := s.trace ++
        [.wordsDelivered d ((List.range (min n r)).map fun j =>
          (Memory.read s.mem ((a.val + j) % 4000)).toContainer),
         .adapterReturned d (r - min n r)] }) ∧
  (∀ (d : Device) (data : List (BitVec 32)) (r : Nat) (a : Addr) (s : State),
    Memory.wf s.mem = true → s.descOf d = .words .input r a → 1 ≤ min data.length r → r ≤ 100 →
    ∃ t : State, adapterStep d (.writeWords data) s = .next t ∧
      (∀ (j : Nat) (h : j < data.length), j < r →
        (Memory.read t.mem ((a.val + j) % 4000)).toContainer = data[j] &&& 0xBFFFFFFF#32) ∧
      (∀ b : Addr, (∀ j : Nat, j < min data.length r → b.val ≠ (a.val + j) % 4000) → t.readMem b = s.readMem b) ∧
      t = { s with
        mem := t.mem,
        desc := s.desc.set d.val
          (.words .input (r - min data.length r) ⟨(a.val + min data.length r) % 4000, Nat.mod_lt _ (by decide)⟩),
        trace := s.trace ++ [.adapterReturned d (r - min data.length r)] })

/-- One character at a time (R384, R385). A read delivers the next byte of the word, fetched from memory at position 0 and
from the buffer after that; a write shifts the code, mod 64, into the buffer, and its fifth character stores the word with
sign `+` and changes no other word. After position 4 the address advances and wraps. The byte order, the buffer and the
moment of the write are the spec's decision D18. -/
def Obligations.CharacterAdaptersMoveTheNextByte : Prop :=
  (∀ (d : Device) (r : Nat) (a : Addr) (p : Fin 5) (b : Word) (s : State), s.descOf d = .chars .output r a p b → 1 ≤ r →
    let word : Word := if p.val = 0 then s.readMem a else b
    let next : Addr := if p.val = 4 then ⟨(a.val + 1) % 4000, Nat.mod_lt _ (by decide)⟩ else a
    adapterStep d (.readChars 1) s = .next { s with
      desc := s.desc.set d.val (.chars .output (r - 1) next (p + 1) word),
      trace := s.trace ++ [.charsDelivered d [word.byte (p.val + 1)], .adapterReturned d (r - 1)] }) ∧
  (∀ (d : Device) (x r : Nat) (a : Addr) (p : Fin 5) (b : Word) (s : State),
    s.descOf d = .chars .input r a p b → 1 ≤ r →
    let word : Word := ⟨false, BitVec.ofNat 30 (b.magnitude * 64 + x % 64)⟩
    (p.val < 4 → adapterStep d (.writeChars [x]) s = .next { s with
      desc := s.desc.set d.val (.chars .input (r - 1) a (p + 1) word),
      trace := s.trace ++ [.adapterReturned d (r - 1)] }) ∧
    (p.val = 4 → Memory.wf s.mem = true → ∃ t : State, adapterStep d (.writeChars [x]) s = .next t ∧
      t.readMem a = word ∧ (∀ c : Addr, c ≠ a → t.readMem c = s.readMem c) ∧
      t = { s with
        mem := t.mem,
        desc := s.desc.set d.val
          (.chars .input (r - 1) ⟨(a.val + 1) % 4000, Nat.mod_lt _ (by decide)⟩ 0 ⟨false, 0#30⟩),
        trace := s.trace ++ [.adapterReturned d (r - 1)] }))

/-- A character input may come in one call or in many: writing `xs` and then `ys` leaves the memory and the descriptor that
writing both at once leaves (R380). The byte order and the moment of the write are the spec's decision D18. -/
def Obligations.CharacterInputMayComeInPieces : Prop :=
  ∀ (d : Device) (xs ys : List Nat) (s t u v : State),
    adapterStep d (.writeChars xs) s = .next t → adapterStep d (.writeChars ys) t = .next u →
    adapterStep d (.writeChars (xs ++ ys)) s = .next v →
    u.mem = v.mem ∧ u.desc = v.desc

/-! ## Rules about the whole machine -/

/-- The overflow latch (R28): set and never cleared by ADD, SUB, INCr, DECr on overflow and by DIV when the divisor is zero
or the quotient does not fit; cleared by JOV and JNOV whatever the outcome; neither read nor written by any other
instruction. That INCr and DECr add the unclamped M and overflow at 30 bits in every register are the spec's decisions D11
(R125) and D4 (R22; log entry 17). -/
def Obligations.OverflowLatchIsStickyAndPrivateToItsInstructions : Prop :=
  (∀ (m : AddrSpec) (f : Nat) (s : State),
    (∀ t, exec (.add m f) s = .next t →
      t.ov = (s.ov || decide (2 ^ 30 - 1 < (s.regs.rA.val + (s.operand m f).val).natAbs))) ∧
    (∀ t, exec (.sub m f) s = .next t →
      t.ov = (s.ov || decide (2 ^ 30 - 1 < (s.regs.rA.val - (s.operand m f).val).natAbs))) ∧
    (∀ t, exec (.div m f) s = .next t → t.ov = (s.ov ||
      decide ((s.operand m f).magnitude = 0 ∨ (s.operand m f).magnitude ≤ s.regs.rA.magnitude))) ∧
    (∀ k t, exec (.incOf k m) s = .next t →
      t.ov = (s.ov || decide (2 ^ 30 - 1 < ((s.reg k).val + s.mRaw m).natAbs))) ∧
    (∀ k t, exec (.decOf k m) s = .next t →
      t.ov = (s.ov || decide (2 ^ 30 - 1 < ((s.reg k).val - s.mRaw m).natAbs))) ∧
    (∀ t, exec (.jov m) s = .next t → t.ov = false) ∧ (∀ t, exec (.jnov m) s = .next t → t.ov = false)) ∧
  ∀ (i : Instr) (s : State) (b : Bool),
    (∀ m f, i ≠ .add m f ∧ i ≠ .sub m f ∧ i ≠ .div m f ∧ i ≠ .jov m ∧ i ≠ .jnov m) →
    (∀ k m, i ≠ .incOf k m ∧ i ≠ .decOf k m) →
    ∃ t : State, exec i s = .next t ∧ exec i { s with ov := b } = .next { t with ov := b }

/-- The comparison indicator (R29): no instruction but the compares writes it, and no instruction but JL, JE, JG, JGE, JNE,
JLE reads it. -/
def Obligations.ComparisonIndicatorIsWrittenByComparesAndReadByBranches : Prop :=
  (∀ (i : Instr) (s t : State), (∀ k m f, i ≠ .cmpOf k m f) → exec i s = .next t → t.ci = s.ci) ∧
  (∀ (k : Reg) (m : AddrSpec) (f : Nat) (s : State) (c : Comparison),
    exec (.cmpOf k m f) { s with ci := c } = exec (.cmpOf k m f) s) ∧
  ∀ (i : Instr) (s : State) (c : Comparison),
    (∀ m, i ≠ .jl m ∧ i ≠ .je m ∧ i ≠ .jg m ∧ i ≠ .jge m ∧ i ≠ .jne m ∧ i ≠ .jle m) →
    (∀ k m f, i ≠ .cmpOf k m f) →
    ∃ t : State, exec i s = .next t ∧ exec i { s with ci := c } = .next { t with ci := c }

/-- Which instructions can change a register of the file (R24): its own loads, load-negatives, INC, DEC, ENT and ENN; for
rA also ADD, SUB, MUL, DIV, NUM, CHAR and the six shifts; for rX also MUL, DIV, CHAR and the four shifts of the pair; for
rI[1] also MOVE. -/
def Obligations.RegistersChangeOnlyByTheirWriters : Prop :=
  ∀ (i : Instr) (s t : State) (k : Reg), exec i s = .next t → t.reg k ≠ s.reg k →
    (∃ m f, i = .ldOf k m f ∨ i = .ldnOf k m f) ∨
    (∃ m, i = .incOf k m ∨ i = .decOf k m ∨ i = .entOf k m ∨ i = .ennOf k m) ∨
    (k = .a ∧ ∃ m f, i = .add m f ∨ i = .sub m f ∨ i = .mul m f ∨ i = .div m f ∨ i = .num m ∨ i = .char m ∨
      i = .sla m ∨ i = .sra m ∨ i = .slax m ∨ i = .srax m ∨ i = .slc m ∨ i = .src m) ∨
    (k = .x ∧ ∃ m f, i = .mul m f ∨ i = .div m f ∨ i = .char m ∨
      i = .slax m ∨ i = .srax m ∨ i = .slc m ∨ i = .src m) ∨
    (k = .i1 ∧ ∃ m f, i = .move m f)

/-- What an instruction's execute phase can change beside the register file and the flags: memory only by STr, STJ, STZ and
MOVE (R61); the run state only by HLT and by IN, OUT, IOC on a busy device (R401); the waiting latch only by that rollback,
which sets it (R32, R352); a descriptor only by IN and OUT on a free device (R41); pc only by a jump, to M, or by the
rollback of a busy IN, OUT or IOC, to ppc (R25); rJ only by a jump but JSJ, to the advanced pc (R23, R24); IR and ppc never
(R26, R27); and never the inputs, the schedule, the budget or CYC. -/
def Obligations.ExecutionChangesTheRestOnlyWhereTheSpecSays : Prop :=
  ∀ (i : Instr) (s t : State), exec i s = .next t →
    let savingJump : AddrSpec → Prop := fun m =>
      i ∈ [Instr.jmp m, .jov m, .jnov m, .jl m, .je m, .jg m, .jge m, .jne m, .jle m] ∨
      (∃ k, i ∈ [Instr.jnOf k m, .jzOf k m, .jpOf k m, .jnnOf k m, .jnzOf k m, .jnpOf k m]) ∨
      ∃ d : Device, i = .jbus m d.val ∨ i = .jred m d.val
    let rollback : Device → Prop := fun d =>
      s.busy[d.val] = true ∧ ∃ m, i = .inp m d.val ∨ i = .out m d.val ∨ i = .ioc m d.val
    (t.mem ≠ s.mem → (∃ k m f, i = .stOf k m f) ∨ ∃ m f, i = .stj m f ∨ i = .stz m f ∨ i = .move m f) ∧
    (t.rs ≠ s.rs → (∃ m, i = .hlt m ∧ t.rs = .halt) ∨ ∃ d, rollback d ∧ t.rs = .waitDevice d) ∧
    (t.wn ≠ s.wn → t.wn = true ∧ ∃ d, rollback d ∧ t.rs = .waitDevice d) ∧
    (t.desc ≠ s.desc → ∃ m, ∃ d : Device, s.busy[d.val] = false ∧ (i = .inp m d.val ∨ i = .out m d.val)) ∧
    (t.pc ≠ s.pc → (∃ m, (savingJump m ∨ i = .jsj m) ∧ t.pc = s.mAddr m) ∨
      ∃ d, rollback d ∧ t.rs = .waitDevice d ∧ t.pc = s.ppc) ∧
    (t.rJ ≠ s.rJ → ∃ m, savingJump m ∧ t.rJ = BitVec.ofNat 12 s.pc.val ∧ t.pc = s.mAddr m) ∧
    t.ir = s.ir ∧ t.ppc = s.ppc ∧ t.busy = s.busy ∧ t.signals = s.signals ∧ t.sched = s.sched ∧
    t.runBudget = s.runBudget ∧ t.cyc = s.cyc ∧ t.costTick = s.costTick
end

