-- ==== Sys2Proof/Laws/State.lean ====
section
/-! SUPPORT. One lemma per field per update of the state, and what the reads of a state see of each update. -/

namespace Sys2Proof.Machine

/-! ## The register file -/

@[simp] theorem RegFile.get_set_same (r : RegFile) (k : Reg) (w : Word) : (r.set k w).get k = w := by
  cases k <;> rfl

theorem RegFile.get_set_other (r : RegFile) (k j : Reg) (w : Word) (h : j ≠ k) : (r.set k w).get j = r.get j := by
  cases k <;> cases j <;> first | rfl | exact absurd rfl h

theorem RegFile.get_set (r : RegFile) (k j : Reg) (w : Word) :
    (r.set k w).get j = if j = k then w else r.get j := by
  split
  · next h => subst h; exact RegFile.get_set_same r _ w
  · next h => exact RegFile.get_set_other r k j w h

/-- A register file is its eight registers. -/
theorem RegFile.ext_get (r q : RegFile) (h : ∀ k, r.get k = q.get k) : r = q := by
  obtain ⟨⟩ := r
  obtain ⟨⟩ := q
  have ha := h .a
  have h1 := h .i1
  have h2 := h .i2
  have h3 := h .i3
  have h4 := h .i4
  have h5 := h .i5
  have h6 := h .i6
  have hx := h .x
  simp only [RegFile.get] at ha h1 h2 h3 h4 h5 h6 hx
  subst ha h1 h2 h3 h4 h5 h6 hx
  rfl

/-! ## setReg -/

@[simp] theorem State.setReg_regs (s : State) (k : Reg) (w : Word) : (s.setReg k w).regs = s.regs.set k w := rfl
@[simp] theorem State.setReg_rJ (s : State) (k : Reg) (w : Word) : (s.setReg k w).rJ = s.rJ := rfl
@[simp] theorem State.setReg_pc (s : State) (k : Reg) (w : Word) : (s.setReg k w).pc = s.pc := rfl
@[simp] theorem State.setReg_ppc (s : State) (k : Reg) (w : Word) : (s.setReg k w).ppc = s.ppc := rfl
@[simp] theorem State.setReg_ir (s : State) (k : Reg) (w : Word) : (s.setReg k w).ir = s.ir := rfl
@[simp] theorem State.setReg_ov (s : State) (k : Reg) (w : Word) : (s.setReg k w).ov = s.ov := rfl
@[simp] theorem State.setReg_ci (s : State) (k : Reg) (w : Word) : (s.setReg k w).ci = s.ci := rfl
@[simp] theorem State.setReg_rs (s : State) (k : Reg) (w : Word) : (s.setReg k w).rs = s.rs := rfl
@[simp] theorem State.setReg_wn (s : State) (k : Reg) (w : Word) : (s.setReg k w).wn = s.wn := rfl
@[simp] theorem State.setReg_cyc (s : State) (k : Reg) (w : Word) : (s.setReg k w).cyc = s.cyc := rfl
@[simp] theorem State.setReg_mem (s : State) (k : Reg) (w : Word) : (s.setReg k w).mem = s.mem := rfl
@[simp] theorem State.setReg_desc (s : State) (k : Reg) (w : Word) : (s.setReg k w).desc = s.desc := rfl
@[simp] theorem State.setReg_busy (s : State) (k : Reg) (w : Word) : (s.setReg k w).busy = s.busy := rfl
@[simp] theorem State.setReg_signals (s : State) (k : Reg) (w : Word) : (s.setReg k w).signals = s.signals := rfl
@[simp] theorem State.setReg_runBudget (s : State) (k : Reg) (w : Word) : (s.setReg k w).runBudget = s.runBudget := rfl
@[simp] theorem State.setReg_sched (s : State) (k : Reg) (w : Word) : (s.setReg k w).sched = s.sched := rfl
@[simp] theorem State.setReg_trace (s : State) (k : Reg) (w : Word) : (s.setReg k w).trace = s.trace := rfl
@[simp] theorem State.setReg_costTick (s : State) (k : Reg) (w : Word) : (s.setReg k w).costTick = s.costTick := rfl

@[simp] theorem State.setReg_readMem (s : State) (k : Reg) (w : Word) (adr : Addr) : (s.setReg k w).readMem adr = s.readMem adr := rfl
@[simp] theorem State.setReg_isBusy (s : State) (k : Reg) (w : Word) (dev : Device) : (s.setReg k w).isBusy dev = s.isBusy dev := rfl
@[simp] theorem State.setReg_descOf (s : State) (k : Reg) (w : Word) (dev : Device) : (s.setReg k w).descOf dev = s.descOf dev := rfl

/-! ## setOV -/

@[simp] theorem State.setOV_regs (s : State) (b : Bool) : (s.setOV b).regs = s.regs := rfl
@[simp] theorem State.setOV_rJ (s : State) (b : Bool) : (s.setOV b).rJ = s.rJ := rfl
@[simp] theorem State.setOV_pc (s : State) (b : Bool) : (s.setOV b).pc = s.pc := rfl
@[simp] theorem State.setOV_ppc (s : State) (b : Bool) : (s.setOV b).ppc = s.ppc := rfl
@[simp] theorem State.setOV_ir (s : State) (b : Bool) : (s.setOV b).ir = s.ir := rfl
@[simp] theorem State.setOV_ov (s : State) (b : Bool) : (s.setOV b).ov = b := rfl
@[simp] theorem State.setOV_ci (s : State) (b : Bool) : (s.setOV b).ci = s.ci := rfl
@[simp] theorem State.setOV_rs (s : State) (b : Bool) : (s.setOV b).rs = s.rs := rfl
@[simp] theorem State.setOV_wn (s : State) (b : Bool) : (s.setOV b).wn = s.wn := rfl
@[simp] theorem State.setOV_cyc (s : State) (b : Bool) : (s.setOV b).cyc = s.cyc := rfl
@[simp] theorem State.setOV_mem (s : State) (b : Bool) : (s.setOV b).mem = s.mem := rfl
@[simp] theorem State.setOV_desc (s : State) (b : Bool) : (s.setOV b).desc = s.desc := rfl
@[simp] theorem State.setOV_busy (s : State) (b : Bool) : (s.setOV b).busy = s.busy := rfl
@[simp] theorem State.setOV_signals (s : State) (b : Bool) : (s.setOV b).signals = s.signals := rfl
@[simp] theorem State.setOV_runBudget (s : State) (b : Bool) : (s.setOV b).runBudget = s.runBudget := rfl
@[simp] theorem State.setOV_sched (s : State) (b : Bool) : (s.setOV b).sched = s.sched := rfl
@[simp] theorem State.setOV_trace (s : State) (b : Bool) : (s.setOV b).trace = s.trace := rfl
@[simp] theorem State.setOV_costTick (s : State) (b : Bool) : (s.setOV b).costTick = s.costTick := rfl

@[simp] theorem State.setOV_reg (s : State) (b : Bool) (num : Reg) : (s.setOV b).reg num = s.reg num := rfl
@[simp] theorem State.setOV_readMem (s : State) (b : Bool) (adr : Addr) : (s.setOV b).readMem adr = s.readMem adr := rfl
@[simp] theorem State.setOV_isBusy (s : State) (b : Bool) (dev : Device) : (s.setOV b).isBusy dev = s.isBusy dev := rfl
@[simp] theorem State.setOV_descOf (s : State) (b : Bool) (dev : Device) : (s.setOV b).descOf dev = s.descOf dev := rfl

/-! ## setCI -/

@[simp] theorem State.setCI_regs (s : State) (c : Comparison) : (s.setCI c).regs = s.regs := rfl
@[simp] theorem State.setCI_rJ (s : State) (c : Comparison) : (s.setCI c).rJ = s.rJ := rfl
@[simp] theorem State.setCI_pc (s : State) (c : Comparison) : (s.setCI c).pc = s.pc := rfl
@[simp] theorem State.setCI_ppc (s : State) (c : Comparison) : (s.setCI c).ppc = s.ppc := rfl
@[simp] theorem State.setCI_ir (s : State) (c : Comparison) : (s.setCI c).ir = s.ir := rfl
@[simp] theorem State.setCI_ov (s : State) (c : Comparison) : (s.setCI c).ov = s.ov := rfl
@[simp] theorem State.setCI_ci (s : State) (c : Comparison) : (s.setCI c).ci = c := rfl
@[simp] theorem State.setCI_rs (s : State) (c : Comparison) : (s.setCI c).rs = s.rs := rfl
@[simp] theorem State.setCI_wn (s : State) (c : Comparison) : (s.setCI c).wn = s.wn := rfl
@[simp] theorem State.setCI_cyc (s : State) (c : Comparison) : (s.setCI c).cyc = s.cyc := rfl
@[simp] theorem State.setCI_mem (s : State) (c : Comparison) : (s.setCI c).mem = s.mem := rfl
@[simp] theorem State.setCI_desc (s : State) (c : Comparison) : (s.setCI c).desc = s.desc := rfl
@[simp] theorem State.setCI_busy (s : State) (c : Comparison) : (s.setCI c).busy = s.busy := rfl
@[simp] theorem State.setCI_signals (s : State) (c : Comparison) : (s.setCI c).signals = s.signals := rfl
@[simp] theorem State.setCI_runBudget (s : State) (c : Comparison) : (s.setCI c).runBudget = s.runBudget := rfl
@[simp] theorem State.setCI_sched (s : State) (c : Comparison) : (s.setCI c).sched = s.sched := rfl
@[simp] theorem State.setCI_trace (s : State) (c : Comparison) : (s.setCI c).trace = s.trace := rfl
@[simp] theorem State.setCI_costTick (s : State) (c : Comparison) : (s.setCI c).costTick = s.costTick := rfl

@[simp] theorem State.setCI_reg (s : State) (c : Comparison) (num : Reg) : (s.setCI c).reg num = s.reg num := rfl
@[simp] theorem State.setCI_readMem (s : State) (c : Comparison) (adr : Addr) : (s.setCI c).readMem adr = s.readMem adr := rfl
@[simp] theorem State.setCI_isBusy (s : State) (c : Comparison) (dev : Device) : (s.setCI c).isBusy dev = s.isBusy dev := rfl
@[simp] theorem State.setCI_descOf (s : State) (c : Comparison) (dev : Device) : (s.setCI c).descOf dev = s.descOf dev := rfl

/-! ## noteOverflow -/

@[simp] theorem State.noteOverflow_regs (s : State) (v : Int) : (s.noteOverflow v).regs = s.regs := rfl
@[simp] theorem State.noteOverflow_rJ (s : State) (v : Int) : (s.noteOverflow v).rJ = s.rJ := rfl
@[simp] theorem State.noteOverflow_pc (s : State) (v : Int) : (s.noteOverflow v).pc = s.pc := rfl
@[simp] theorem State.noteOverflow_ppc (s : State) (v : Int) : (s.noteOverflow v).ppc = s.ppc := rfl
@[simp] theorem State.noteOverflow_ir (s : State) (v : Int) : (s.noteOverflow v).ir = s.ir := rfl
@[simp] theorem State.noteOverflow_ov (s : State) (v : Int) : (s.noteOverflow v).ov = (s.ov || overflows v) := rfl
@[simp] theorem State.noteOverflow_ci (s : State) (v : Int) : (s.noteOverflow v).ci = s.ci := rfl
@[simp] theorem State.noteOverflow_rs (s : State) (v : Int) : (s.noteOverflow v).rs = s.rs := rfl
@[simp] theorem State.noteOverflow_wn (s : State) (v : Int) : (s.noteOverflow v).wn = s.wn := rfl
@[simp] theorem State.noteOverflow_cyc (s : State) (v : Int) : (s.noteOverflow v).cyc = s.cyc := rfl
@[simp] theorem State.noteOverflow_mem (s : State) (v : Int) : (s.noteOverflow v).mem = s.mem := rfl
@[simp] theorem State.noteOverflow_desc (s : State) (v : Int) : (s.noteOverflow v).desc = s.desc := rfl
@[simp] theorem State.noteOverflow_busy (s : State) (v : Int) : (s.noteOverflow v).busy = s.busy := rfl
@[simp] theorem State.noteOverflow_signals (s : State) (v : Int) : (s.noteOverflow v).signals = s.signals := rfl
@[simp] theorem State.noteOverflow_runBudget (s : State) (v : Int) : (s.noteOverflow v).runBudget = s.runBudget := rfl
@[simp] theorem State.noteOverflow_sched (s : State) (v : Int) : (s.noteOverflow v).sched = s.sched := rfl
@[simp] theorem State.noteOverflow_trace (s : State) (v : Int) : (s.noteOverflow v).trace = s.trace := rfl
@[simp] theorem State.noteOverflow_costTick (s : State) (v : Int) : (s.noteOverflow v).costTick = s.costTick := rfl

@[simp] theorem State.noteOverflow_reg (s : State) (v : Int) (num : Reg) : (s.noteOverflow v).reg num = s.reg num := rfl
@[simp] theorem State.noteOverflow_readMem (s : State) (v : Int) (adr : Addr) : (s.noteOverflow v).readMem adr = s.readMem adr := rfl
@[simp] theorem State.noteOverflow_isBusy (s : State) (v : Int) (dev : Device) : (s.noteOverflow v).isBusy dev = s.isBusy dev := rfl
@[simp] theorem State.noteOverflow_descOf (s : State) (v : Int) (dev : Device) : (s.noteOverflow v).descOf dev = s.descOf dev := rfl

/-! ## writeMem -/

@[simp] theorem State.writeMem_regs (s : State) (a : Addr) (w : Word) : (s.writeMem a w).regs = s.regs := rfl
@[simp] theorem State.writeMem_rJ (s : State) (a : Addr) (w : Word) : (s.writeMem a w).rJ = s.rJ := rfl
@[simp] theorem State.writeMem_pc (s : State) (a : Addr) (w : Word) : (s.writeMem a w).pc = s.pc := rfl
@[simp] theorem State.writeMem_ppc (s : State) (a : Addr) (w : Word) : (s.writeMem a w).ppc = s.ppc := rfl
@[simp] theorem State.writeMem_ir (s : State) (a : Addr) (w : Word) : (s.writeMem a w).ir = s.ir := rfl
@[simp] theorem State.writeMem_ov (s : State) (a : Addr) (w : Word) : (s.writeMem a w).ov = s.ov := rfl
@[simp] theorem State.writeMem_ci (s : State) (a : Addr) (w : Word) : (s.writeMem a w).ci = s.ci := rfl
@[simp] theorem State.writeMem_rs (s : State) (a : Addr) (w : Word) : (s.writeMem a w).rs = s.rs := rfl
@[simp] theorem State.writeMem_wn (s : State) (a : Addr) (w : Word) : (s.writeMem a w).wn = s.wn := rfl
@[simp] theorem State.writeMem_cyc (s : State) (a : Addr) (w : Word) : (s.writeMem a w).cyc = s.cyc := rfl
@[simp] theorem State.writeMem_mem (s : State) (a : Addr) (w : Word) : (s.writeMem a w).mem = Memory.write s.mem a.val w := rfl
@[simp] theorem State.writeMem_desc (s : State) (a : Addr) (w : Word) : (s.writeMem a w).desc = s.desc := rfl
@[simp] theorem State.writeMem_busy (s : State) (a : Addr) (w : Word) : (s.writeMem a w).busy = s.busy := rfl
@[simp] theorem State.writeMem_signals (s : State) (a : Addr) (w : Word) : (s.writeMem a w).signals = s.signals := rfl
@[simp] theorem State.writeMem_runBudget (s : State) (a : Addr) (w : Word) : (s.writeMem a w).runBudget = s.runBudget := rfl
@[simp] theorem State.writeMem_sched (s : State) (a : Addr) (w : Word) : (s.writeMem a w).sched = s.sched := rfl
@[simp] theorem State.writeMem_trace (s : State) (a : Addr) (w : Word) : (s.writeMem a w).trace = s.trace := rfl
@[simp] theorem State.writeMem_costTick (s : State) (a : Addr) (w : Word) : (s.writeMem a w).costTick = s.costTick := rfl

@[simp] theorem State.writeMem_reg (s : State) (a : Addr) (w : Word) (num : Reg) : (s.writeMem a w).reg num = s.reg num := rfl
@[simp] theorem State.writeMem_isBusy (s : State) (a : Addr) (w : Word) (dev : Device) : (s.writeMem a w).isBusy dev = s.isBusy dev := rfl
@[simp] theorem State.writeMem_descOf (s : State) (a : Addr) (w : Word) (dev : Device) : (s.writeMem a w).descOf dev = s.descOf dev := rfl

/-! ## emit -/

@[simp] theorem State.emit_regs (s : State) (e : Event) : (s.emit e).regs = s.regs := rfl
@[simp] theorem State.emit_rJ (s : State) (e : Event) : (s.emit e).rJ = s.rJ := rfl
@[simp] theorem State.emit_pc (s : State) (e : Event) : (s.emit e).pc = s.pc := rfl
@[simp] theorem State.emit_ppc (s : State) (e : Event) : (s.emit e).ppc = s.ppc := rfl
@[simp] theorem State.emit_ir (s : State) (e : Event) : (s.emit e).ir = s.ir := rfl
@[simp] theorem State.emit_ov (s : State) (e : Event) : (s.emit e).ov = s.ov := rfl
@[simp] theorem State.emit_ci (s : State) (e : Event) : (s.emit e).ci = s.ci := rfl
@[simp] theorem State.emit_rs (s : State) (e : Event) : (s.emit e).rs = s.rs := rfl
@[simp] theorem State.emit_wn (s : State) (e : Event) : (s.emit e).wn = s.wn := rfl
@[simp] theorem State.emit_cyc (s : State) (e : Event) : (s.emit e).cyc = s.cyc := rfl
@[simp] theorem State.emit_mem (s : State) (e : Event) : (s.emit e).mem = s.mem := rfl
@[simp] theorem State.emit_desc (s : State) (e : Event) : (s.emit e).desc = s.desc := rfl
@[simp] theorem State.emit_busy (s : State) (e : Event) : (s.emit e).busy = s.busy := rfl
@[simp] theorem State.emit_signals (s : State) (e : Event) : (s.emit e).signals = s.signals := rfl
@[simp] theorem State.emit_runBudget (s : State) (e : Event) : (s.emit e).runBudget = s.runBudget := rfl
@[simp] theorem State.emit_sched (s : State) (e : Event) : (s.emit e).sched = s.sched := rfl
@[simp] theorem State.emit_trace (s : State) (e : Event) : (s.emit e).trace = s.trace ++ [e] := rfl
@[simp] theorem State.emit_costTick (s : State) (e : Event) : (s.emit e).costTick = s.costTick := rfl

@[simp] theorem State.emit_reg (s : State) (e : Event) (num : Reg) : (s.emit e).reg num = s.reg num := rfl
@[simp] theorem State.emit_readMem (s : State) (e : Event) (adr : Addr) : (s.emit e).readMem adr = s.readMem adr := rfl
@[simp] theorem State.emit_isBusy (s : State) (e : Event) (dev : Device) : (s.emit e).isBusy dev = s.isBusy dev := rfl
@[simp] theorem State.emit_descOf (s : State) (e : Event) (dev : Device) : (s.emit e).descOf dev = s.descOf dev := rfl

/-! ## warnAll -/

@[simp] theorem State.warnAll_regs (s : State) (ws : List Warning) : (s.warnAll ws).regs = s.regs := rfl
@[simp] theorem State.warnAll_rJ (s : State) (ws : List Warning) : (s.warnAll ws).rJ = s.rJ := rfl
@[simp] theorem State.warnAll_pc (s : State) (ws : List Warning) : (s.warnAll ws).pc = s.pc := rfl
@[simp] theorem State.warnAll_ppc (s : State) (ws : List Warning) : (s.warnAll ws).ppc = s.ppc := rfl
@[simp] theorem State.warnAll_ir (s : State) (ws : List Warning) : (s.warnAll ws).ir = s.ir := rfl
@[simp] theorem State.warnAll_ov (s : State) (ws : List Warning) : (s.warnAll ws).ov = s.ov := rfl
@[simp] theorem State.warnAll_ci (s : State) (ws : List Warning) : (s.warnAll ws).ci = s.ci := rfl
@[simp] theorem State.warnAll_rs (s : State) (ws : List Warning) : (s.warnAll ws).rs = s.rs := rfl
@[simp] theorem State.warnAll_wn (s : State) (ws : List Warning) : (s.warnAll ws).wn = s.wn := rfl
@[simp] theorem State.warnAll_cyc (s : State) (ws : List Warning) : (s.warnAll ws).cyc = s.cyc := rfl
@[simp] theorem State.warnAll_mem (s : State) (ws : List Warning) : (s.warnAll ws).mem = s.mem := rfl
@[simp] theorem State.warnAll_desc (s : State) (ws : List Warning) : (s.warnAll ws).desc = s.desc := rfl
@[simp] theorem State.warnAll_busy (s : State) (ws : List Warning) : (s.warnAll ws).busy = s.busy := rfl
@[simp] theorem State.warnAll_signals (s : State) (ws : List Warning) : (s.warnAll ws).signals = s.signals := rfl
@[simp] theorem State.warnAll_runBudget (s : State) (ws : List Warning) : (s.warnAll ws).runBudget = s.runBudget := rfl
@[simp] theorem State.warnAll_sched (s : State) (ws : List Warning) : (s.warnAll ws).sched = s.sched := rfl
@[simp] theorem State.warnAll_trace (s : State) (ws : List Warning) : (s.warnAll ws).trace = s.trace ++ ws.map Event.warning := rfl
@[simp] theorem State.warnAll_costTick (s : State) (ws : List Warning) : (s.warnAll ws).costTick = s.costTick := rfl

@[simp] theorem State.warnAll_reg (s : State) (ws : List Warning) (num : Reg) : (s.warnAll ws).reg num = s.reg num := rfl
@[simp] theorem State.warnAll_readMem (s : State) (ws : List Warning) (adr : Addr) : (s.warnAll ws).readMem adr = s.readMem adr := rfl
@[simp] theorem State.warnAll_isBusy (s : State) (ws : List Warning) (dev : Device) : (s.warnAll ws).isBusy dev = s.isBusy dev := rfl
@[simp] theorem State.warnAll_descOf (s : State) (ws : List Warning) (dev : Device) : (s.warnAll ws).descOf dev = s.descOf dev := rfl

/-! ## query -/

@[simp] theorem State.query_regs (s : State) (d : Device) : (s.query d).regs = s.regs := rfl
@[simp] theorem State.query_rJ (s : State) (d : Device) : (s.query d).rJ = s.rJ := rfl
@[simp] theorem State.query_pc (s : State) (d : Device) : (s.query d).pc = s.pc := rfl
@[simp] theorem State.query_ppc (s : State) (d : Device) : (s.query d).ppc = s.ppc := rfl
@[simp] theorem State.query_ir (s : State) (d : Device) : (s.query d).ir = s.ir := rfl
@[simp] theorem State.query_ov (s : State) (d : Device) : (s.query d).ov = s.ov := rfl
@[simp] theorem State.query_ci (s : State) (d : Device) : (s.query d).ci = s.ci := rfl
@[simp] theorem State.query_rs (s : State) (d : Device) : (s.query d).rs = s.rs := rfl
@[simp] theorem State.query_wn (s : State) (d : Device) : (s.query d).wn = s.wn := rfl
@[simp] theorem State.query_cyc (s : State) (d : Device) : (s.query d).cyc = s.cyc := rfl
@[simp] theorem State.query_mem (s : State) (d : Device) : (s.query d).mem = s.mem := rfl
@[simp] theorem State.query_desc (s : State) (d : Device) : (s.query d).desc = s.desc := rfl
@[simp] theorem State.query_busy (s : State) (d : Device) : (s.query d).busy = s.busy := rfl
@[simp] theorem State.query_signals (s : State) (d : Device) : (s.query d).signals = s.signals := rfl
@[simp] theorem State.query_runBudget (s : State) (d : Device) : (s.query d).runBudget = s.runBudget := rfl
@[simp] theorem State.query_sched (s : State) (d : Device) : (s.query d).sched = s.sched := rfl
@[simp] theorem State.query_trace (s : State) (d : Device) : (s.query d).trace = s.trace ++ [.busyQuery d (s.isBusy d)] := rfl
@[simp] theorem State.query_costTick (s : State) (d : Device) : (s.query d).costTick = s.costTick := rfl

@[simp] theorem State.query_reg (s : State) (d : Device) (num : Reg) : (s.query d).reg num = s.reg num := rfl
@[simp] theorem State.query_readMem (s : State) (d : Device) (adr : Addr) : (s.query d).readMem adr = s.readMem adr := rfl
@[simp] theorem State.query_isBusy (s : State) (d : Device) (dev : Device) : (s.query d).isBusy dev = s.isBusy dev := rfl
@[simp] theorem State.query_descOf (s : State) (d : Device) (dev : Device) : (s.query d).descOf dev = s.descOf dev := rfl

/-! ## jumpNoSave -/

@[simp] theorem State.jumpNoSave_regs (s : State) (t : Addr) : (s.jumpNoSave t).regs = s.regs := rfl
@[simp] theorem State.jumpNoSave_rJ (s : State) (t : Addr) : (s.jumpNoSave t).rJ = s.rJ := rfl
@[simp] theorem State.jumpNoSave_pc (s : State) (t : Addr) : (s.jumpNoSave t).pc = t := rfl
@[simp] theorem State.jumpNoSave_ppc (s : State) (t : Addr) : (s.jumpNoSave t).ppc = s.ppc := rfl
@[simp] theorem State.jumpNoSave_ir (s : State) (t : Addr) : (s.jumpNoSave t).ir = s.ir := rfl
@[simp] theorem State.jumpNoSave_ov (s : State) (t : Addr) : (s.jumpNoSave t).ov = s.ov := rfl
@[simp] theorem State.jumpNoSave_ci (s : State) (t : Addr) : (s.jumpNoSave t).ci = s.ci := rfl
@[simp] theorem State.jumpNoSave_rs (s : State) (t : Addr) : (s.jumpNoSave t).rs = s.rs := rfl
@[simp] theorem State.jumpNoSave_wn (s : State) (t : Addr) : (s.jumpNoSave t).wn = s.wn := rfl
@[simp] theorem State.jumpNoSave_cyc (s : State) (t : Addr) : (s.jumpNoSave t).cyc = s.cyc := rfl
@[simp] theorem State.jumpNoSave_mem (s : State) (t : Addr) : (s.jumpNoSave t).mem = s.mem := rfl
@[simp] theorem State.jumpNoSave_desc (s : State) (t : Addr) : (s.jumpNoSave t).desc = s.desc := rfl
@[simp] theorem State.jumpNoSave_busy (s : State) (t : Addr) : (s.jumpNoSave t).busy = s.busy := rfl
@[simp] theorem State.jumpNoSave_signals (s : State) (t : Addr) : (s.jumpNoSave t).signals = s.signals := rfl
@[simp] theorem State.jumpNoSave_runBudget (s : State) (t : Addr) : (s.jumpNoSave t).runBudget = s.runBudget := rfl
@[simp] theorem State.jumpNoSave_sched (s : State) (t : Addr) : (s.jumpNoSave t).sched = s.sched := rfl
@[simp] theorem State.jumpNoSave_trace (s : State) (t : Addr) : (s.jumpNoSave t).trace = s.trace := rfl
@[simp] theorem State.jumpNoSave_costTick (s : State) (t : Addr) : (s.jumpNoSave t).costTick = s.costTick := rfl

@[simp] theorem State.jumpNoSave_reg (s : State) (t : Addr) (num : Reg) : (s.jumpNoSave t).reg num = s.reg num := rfl
@[simp] theorem State.jumpNoSave_readMem (s : State) (t : Addr) (adr : Addr) : (s.jumpNoSave t).readMem adr = s.readMem adr := rfl
@[simp] theorem State.jumpNoSave_isBusy (s : State) (t : Addr) (dev : Device) : (s.jumpNoSave t).isBusy dev = s.isBusy dev := rfl
@[simp] theorem State.jumpNoSave_descOf (s : State) (t : Addr) (dev : Device) : (s.jumpNoSave t).descOf dev = s.descOf dev := rfl

/-! ## jump -/

@[simp] theorem State.jump_regs (s : State) (t : Addr) : (s.jump t).regs = s.regs := rfl
@[simp] theorem State.jump_rJ (s : State) (t : Addr) : (s.jump t).rJ = BitVec.ofNat 12 s.pc.val := rfl
@[simp] theorem State.jump_pc (s : State) (t : Addr) : (s.jump t).pc = t := rfl
@[simp] theorem State.jump_ppc (s : State) (t : Addr) : (s.jump t).ppc = s.ppc := rfl
@[simp] theorem State.jump_ir (s : State) (t : Addr) : (s.jump t).ir = s.ir := rfl
@[simp] theorem State.jump_ov (s : State) (t : Addr) : (s.jump t).ov = s.ov := rfl
@[simp] theorem State.jump_ci (s : State) (t : Addr) : (s.jump t).ci = s.ci := rfl
@[simp] theorem State.jump_rs (s : State) (t : Addr) : (s.jump t).rs = s.rs := rfl
@[simp] theorem State.jump_wn (s : State) (t : Addr) : (s.jump t).wn = s.wn := rfl
@[simp] theorem State.jump_cyc (s : State) (t : Addr) : (s.jump t).cyc = s.cyc := rfl
@[simp] theorem State.jump_mem (s : State) (t : Addr) : (s.jump t).mem = s.mem := rfl
@[simp] theorem State.jump_desc (s : State) (t : Addr) : (s.jump t).desc = s.desc := rfl
@[simp] theorem State.jump_busy (s : State) (t : Addr) : (s.jump t).busy = s.busy := rfl
@[simp] theorem State.jump_signals (s : State) (t : Addr) : (s.jump t).signals = s.signals := rfl
@[simp] theorem State.jump_runBudget (s : State) (t : Addr) : (s.jump t).runBudget = s.runBudget := rfl
@[simp] theorem State.jump_sched (s : State) (t : Addr) : (s.jump t).sched = s.sched := rfl
@[simp] theorem State.jump_trace (s : State) (t : Addr) : (s.jump t).trace = s.trace := rfl
@[simp] theorem State.jump_costTick (s : State) (t : Addr) : (s.jump t).costTick = s.costTick := rfl

@[simp] theorem State.jump_reg (s : State) (t : Addr) (num : Reg) : (s.jump t).reg num = s.reg num := rfl
@[simp] theorem State.jump_readMem (s : State) (t : Addr) (adr : Addr) : (s.jump t).readMem adr = s.readMem adr := rfl
@[simp] theorem State.jump_isBusy (s : State) (t : Addr) (dev : Device) : (s.jump t).isBusy dev = s.isBusy dev := rfl
@[simp] theorem State.jump_descOf (s : State) (t : Addr) (dev : Device) : (s.jump t).descOf dev = s.descOf dev := rfl

/-! ## waitForDevice -/

@[simp] theorem State.waitForDevice_regs (s : State) (d : Device) : (s.waitForDevice d).regs = s.regs := rfl
@[simp] theorem State.waitForDevice_rJ (s : State) (d : Device) : (s.waitForDevice d).rJ = s.rJ := rfl
@[simp] theorem State.waitForDevice_pc (s : State) (d : Device) : (s.waitForDevice d).pc = s.ppc := rfl
@[simp] theorem State.waitForDevice_ppc (s : State) (d : Device) : (s.waitForDevice d).ppc = s.ppc := rfl
@[simp] theorem State.waitForDevice_ir (s : State) (d : Device) : (s.waitForDevice d).ir = s.ir := rfl
@[simp] theorem State.waitForDevice_ov (s : State) (d : Device) : (s.waitForDevice d).ov = s.ov := rfl
@[simp] theorem State.waitForDevice_ci (s : State) (d : Device) : (s.waitForDevice d).ci = s.ci := rfl
@[simp] theorem State.waitForDevice_rs (s : State) (d : Device) : (s.waitForDevice d).rs = .waitDevice d := rfl
@[simp] theorem State.waitForDevice_wn (s : State) (d : Device) : (s.waitForDevice d).wn = true := rfl
@[simp] theorem State.waitForDevice_cyc (s : State) (d : Device) : (s.waitForDevice d).cyc = s.cyc := rfl
@[simp] theorem State.waitForDevice_mem (s : State) (d : Device) : (s.waitForDevice d).mem = s.mem := rfl
@[simp] theorem State.waitForDevice_desc (s : State) (d : Device) : (s.waitForDevice d).desc = s.desc := rfl
@[simp] theorem State.waitForDevice_busy (s : State) (d : Device) : (s.waitForDevice d).busy = s.busy := rfl
@[simp] theorem State.waitForDevice_signals (s : State) (d : Device) : (s.waitForDevice d).signals = s.signals := rfl
@[simp] theorem State.waitForDevice_runBudget (s : State) (d : Device) : (s.waitForDevice d).runBudget = s.runBudget := rfl
@[simp] theorem State.waitForDevice_sched (s : State) (d : Device) : (s.waitForDevice d).sched = s.sched := rfl
@[simp] theorem State.waitForDevice_trace (s : State) (d : Device) : (s.waitForDevice d).trace = s.trace ++ [.notifyWaiting d true] := rfl
@[simp] theorem State.waitForDevice_costTick (s : State) (d : Device) : (s.waitForDevice d).costTick = s.costTick := rfl

@[simp] theorem State.waitForDevice_reg (s : State) (d : Device) (num : Reg) : (s.waitForDevice d).reg num = s.reg num := rfl
@[simp] theorem State.waitForDevice_readMem (s : State) (d : Device) (adr : Addr) : (s.waitForDevice d).readMem adr = s.readMem adr := rfl
@[simp] theorem State.waitForDevice_isBusy (s : State) (d : Device) (dev : Device) : (s.waitForDevice d).isBusy dev = s.isBusy dev := rfl
@[simp] theorem State.waitForDevice_descOf (s : State) (d : Device) (dev : Device) : (s.waitForDevice d).descOf dev = s.descOf dev := rfl

/-! ## setDesc -/

@[simp] theorem State.setDesc_regs (s : State) (d : Device) (e : Desc) : (s.setDesc d e).regs = s.regs := rfl
@[simp] theorem State.setDesc_rJ (s : State) (d : Device) (e : Desc) : (s.setDesc d e).rJ = s.rJ := rfl
@[simp] theorem State.setDesc_pc (s : State) (d : Device) (e : Desc) : (s.setDesc d e).pc = s.pc := rfl
@[simp] theorem State.setDesc_ppc (s : State) (d : Device) (e : Desc) : (s.setDesc d e).ppc = s.ppc := rfl
@[simp] theorem State.setDesc_ir (s : State) (d : Device) (e : Desc) : (s.setDesc d e).ir = s.ir := rfl
@[simp] theorem State.setDesc_ov (s : State) (d : Device) (e : Desc) : (s.setDesc d e).ov = s.ov := rfl
@[simp] theorem State.setDesc_ci (s : State) (d : Device) (e : Desc) : (s.setDesc d e).ci = s.ci := rfl
@[simp] theorem State.setDesc_rs (s : State) (d : Device) (e : Desc) : (s.setDesc d e).rs = s.rs := rfl
@[simp] theorem State.setDesc_wn (s : State) (d : Device) (e : Desc) : (s.setDesc d e).wn = s.wn := rfl
@[simp] theorem State.setDesc_cyc (s : State) (d : Device) (e : Desc) : (s.setDesc d e).cyc = s.cyc := rfl
@[simp] theorem State.setDesc_mem (s : State) (d : Device) (e : Desc) : (s.setDesc d e).mem = s.mem := rfl
@[simp] theorem State.setDesc_desc (s : State) (d : Device) (e : Desc) : (s.setDesc d e).desc = s.desc.set d.val e := rfl
@[simp] theorem State.setDesc_busy (s : State) (d : Device) (e : Desc) : (s.setDesc d e).busy = s.busy := rfl
@[simp] theorem State.setDesc_signals (s : State) (d : Device) (e : Desc) : (s.setDesc d e).signals = s.signals := rfl
@[simp] theorem State.setDesc_runBudget (s : State) (d : Device) (e : Desc) : (s.setDesc d e).runBudget = s.runBudget := rfl
@[simp] theorem State.setDesc_sched (s : State) (d : Device) (e : Desc) : (s.setDesc d e).sched = s.sched := rfl
@[simp] theorem State.setDesc_trace (s : State) (d : Device) (e : Desc) : (s.setDesc d e).trace = s.trace := rfl
@[simp] theorem State.setDesc_costTick (s : State) (d : Device) (e : Desc) : (s.setDesc d e).costTick = s.costTick := rfl

@[simp] theorem State.setDesc_reg (s : State) (d : Device) (e : Desc) (num : Reg) : (s.setDesc d e).reg num = s.reg num := rfl
@[simp] theorem State.setDesc_readMem (s : State) (d : Device) (e : Desc) (adr : Addr) : (s.setDesc d e).readMem adr = s.readMem adr := rfl
@[simp] theorem State.setDesc_isBusy (s : State) (d : Device) (e : Desc) (dev : Device) : (s.setDesc d e).isBusy dev = s.isBusy dev := rfl

/-! ## beginIO -/

@[simp] theorem State.beginIO_regs (s : State) (d : Device) (dir : Direction) (a : Addr) : (s.beginIO d dir a).regs = s.regs := rfl
@[simp] theorem State.beginIO_rJ (s : State) (d : Device) (dir : Direction) (a : Addr) : (s.beginIO d dir a).rJ = s.rJ := rfl
@[simp] theorem State.beginIO_pc (s : State) (d : Device) (dir : Direction) (a : Addr) : (s.beginIO d dir a).pc = s.pc := rfl
@[simp] theorem State.beginIO_ppc (s : State) (d : Device) (dir : Direction) (a : Addr) : (s.beginIO d dir a).ppc = s.ppc := rfl
@[simp] theorem State.beginIO_ir (s : State) (d : Device) (dir : Direction) (a : Addr) : (s.beginIO d dir a).ir = s.ir := rfl
@[simp] theorem State.beginIO_ov (s : State) (d : Device) (dir : Direction) (a : Addr) : (s.beginIO d dir a).ov = s.ov := rfl
@[simp] theorem State.beginIO_ci (s : State) (d : Device) (dir : Direction) (a : Addr) : (s.beginIO d dir a).ci = s.ci := rfl
@[simp] theorem State.beginIO_rs (s : State) (d : Device) (dir : Direction) (a : Addr) : (s.beginIO d dir a).rs = s.rs := rfl
@[simp] theorem State.beginIO_wn (s : State) (d : Device) (dir : Direction) (a : Addr) : (s.beginIO d dir a).wn = s.wn := rfl
@[simp] theorem State.beginIO_cyc (s : State) (d : Device) (dir : Direction) (a : Addr) : (s.beginIO d dir a).cyc = s.cyc := rfl
@[simp] theorem State.beginIO_mem (s : State) (d : Device) (dir : Direction) (a : Addr) : (s.beginIO d dir a).mem = s.mem := rfl
@[simp] theorem State.beginIO_desc (s : State) (d : Device) (dir : Direction) (a : Addr) : (s.beginIO d dir a).desc = s.desc.set d.val (newDesc d dir a) := rfl
@[simp] theorem State.beginIO_busy (s : State) (d : Device) (dir : Direction) (a : Addr) : (s.beginIO d dir a).busy = s.busy := rfl
@[simp] theorem State.beginIO_signals (s : State) (d : Device) (dir : Direction) (a : Addr) : (s.beginIO d dir a).signals = s.signals := rfl
@[simp] theorem State.beginIO_runBudget (s : State) (d : Device) (dir : Direction) (a : Addr) : (s.beginIO d dir a).runBudget = s.runBudget := rfl
@[simp] theorem State.beginIO_sched (s : State) (d : Device) (dir : Direction) (a : Addr) : (s.beginIO d dir a).sched = s.sched := rfl
@[simp] theorem State.beginIO_trace (s : State) (d : Device) (dir : Direction) (a : Addr) : (s.beginIO d dir a).trace = s.trace ++ [beginEvent d (newDesc d dir a)] := rfl
@[simp] theorem State.beginIO_costTick (s : State) (d : Device) (dir : Direction) (a : Addr) : (s.beginIO d dir a).costTick = s.costTick := rfl

@[simp] theorem State.beginIO_reg (s : State) (d : Device) (dir : Direction) (a : Addr) (num : Reg) : (s.beginIO d dir a).reg num = s.reg num := rfl
@[simp] theorem State.beginIO_readMem (s : State) (d : Device) (dir : Direction) (a : Addr) (adr : Addr) : (s.beginIO d dir a).readMem adr = s.readMem adr := rfl
@[simp] theorem State.beginIO_isBusy (s : State) (d : Device) (dir : Direction) (a : Addr) (dev : Device) : (s.beginIO d dir a).isBusy dev = s.isBusy dev := rfl

/-! ## charge -/

@[simp] theorem State.charge_regs (s : State) (c : Nat) : (s.charge c).regs = s.regs := rfl
@[simp] theorem State.charge_rJ (s : State) (c : Nat) : (s.charge c).rJ = s.rJ := rfl
@[simp] theorem State.charge_pc (s : State) (c : Nat) : (s.charge c).pc = s.pc := rfl
@[simp] theorem State.charge_ppc (s : State) (c : Nat) : (s.charge c).ppc = s.ppc := rfl
@[simp] theorem State.charge_ir (s : State) (c : Nat) : (s.charge c).ir = s.ir := rfl
@[simp] theorem State.charge_ov (s : State) (c : Nat) : (s.charge c).ov = s.ov := rfl
@[simp] theorem State.charge_ci (s : State) (c : Nat) : (s.charge c).ci = s.ci := rfl
@[simp] theorem State.charge_rs (s : State) (c : Nat) : (s.charge c).rs = s.rs := rfl
@[simp] theorem State.charge_wn (s : State) (c : Nat) : (s.charge c).wn = s.wn := rfl
@[simp] theorem State.charge_cyc (s : State) (c : Nat) : (s.charge c).cyc = s.cyc + c := rfl
@[simp] theorem State.charge_mem (s : State) (c : Nat) : (s.charge c).mem = s.mem := rfl
@[simp] theorem State.charge_desc (s : State) (c : Nat) : (s.charge c).desc = s.desc := rfl
@[simp] theorem State.charge_busy (s : State) (c : Nat) : (s.charge c).busy = s.busy := rfl
@[simp] theorem State.charge_signals (s : State) (c : Nat) : (s.charge c).signals = s.signals := rfl
@[simp] theorem State.charge_runBudget (s : State) (c : Nat) : (s.charge c).runBudget = s.runBudget := rfl
@[simp] theorem State.charge_sched (s : State) (c : Nat) : (s.charge c).sched = s.sched := rfl
@[simp] theorem State.charge_trace (s : State) (c : Nat) : (s.charge c).trace = s.trace := rfl
@[simp] theorem State.charge_costTick (s : State) (c : Nat) : (s.charge c).costTick = s.costTick + 1 := rfl

@[simp] theorem State.charge_reg (s : State) (c : Nat) (num : Reg) : (s.charge c).reg num = s.reg num := rfl
@[simp] theorem State.charge_readMem (s : State) (c : Nat) (adr : Addr) : (s.charge c).readMem adr = s.readMem adr := rfl
@[simp] theorem State.charge_isBusy (s : State) (c : Nat) (dev : Device) : (s.charge c).isBusy dev = s.isBusy dev := rfl
@[simp] theorem State.charge_descOf (s : State) (c : Nat) (dev : Device) : (s.charge c).descOf dev = s.descOf dev := rfl

/-! ## fetch -/

@[simp] theorem State.fetch_regs (s : State) : (s.fetch).regs = s.regs := rfl
@[simp] theorem State.fetch_rJ (s : State) : (s.fetch).rJ = s.rJ := rfl
@[simp] theorem State.fetch_pc (s : State) : (s.fetch).pc = Addr.next s.pc := rfl
@[simp] theorem State.fetch_ppc (s : State) : (s.fetch).ppc = s.pc := rfl
@[simp] theorem State.fetch_ir (s : State) : (s.fetch).ir = s.readMem s.pc := rfl
@[simp] theorem State.fetch_ov (s : State) : (s.fetch).ov = s.ov := rfl
@[simp] theorem State.fetch_ci (s : State) : (s.fetch).ci = s.ci := rfl
@[simp] theorem State.fetch_rs (s : State) : (s.fetch).rs = s.rs := rfl
@[simp] theorem State.fetch_wn (s : State) : (s.fetch).wn = s.wn := rfl
@[simp] theorem State.fetch_cyc (s : State) : (s.fetch).cyc = s.cyc := rfl
@[simp] theorem State.fetch_mem (s : State) : (s.fetch).mem = s.mem := rfl
@[simp] theorem State.fetch_desc (s : State) : (s.fetch).desc = s.desc := rfl
@[simp] theorem State.fetch_busy (s : State) : (s.fetch).busy = s.busy := rfl
@[simp] theorem State.fetch_signals (s : State) : (s.fetch).signals = s.signals := rfl
@[simp] theorem State.fetch_runBudget (s : State) : (s.fetch).runBudget = s.runBudget := rfl
@[simp] theorem State.fetch_sched (s : State) : (s.fetch).sched = s.sched := rfl
@[simp] theorem State.fetch_trace (s : State) : (s.fetch).trace = s.trace := rfl
@[simp] theorem State.fetch_costTick (s : State) : (s.fetch).costTick = s.costTick := rfl

@[simp] theorem State.fetch_reg (s : State) (num : Reg) : (s.fetch).reg num = s.reg num := rfl
@[simp] theorem State.fetch_readMem (s : State) (adr : Addr) : (s.fetch).readMem adr = s.readMem adr := rfl
@[simp] theorem State.fetch_isBusy (s : State) (dev : Device) : (s.fetch).isBusy dev = s.isBusy dev := rfl
@[simp] theorem State.fetch_descOf (s : State) (dev : Device) : (s.fetch).descOf dev = s.descOf dev := rfl

/-! ## endWaiting -/

@[simp] theorem State.endWaiting_regs (s : State) (d : Device) : (s.endWaiting d).regs = s.regs := rfl
@[simp] theorem State.endWaiting_rJ (s : State) (d : Device) : (s.endWaiting d).rJ = s.rJ := rfl
@[simp] theorem State.endWaiting_pc (s : State) (d : Device) : (s.endWaiting d).pc = s.pc := rfl
@[simp] theorem State.endWaiting_ppc (s : State) (d : Device) : (s.endWaiting d).ppc = s.ppc := rfl
@[simp] theorem State.endWaiting_ir (s : State) (d : Device) : (s.endWaiting d).ir = s.ir := rfl
@[simp] theorem State.endWaiting_ov (s : State) (d : Device) : (s.endWaiting d).ov = s.ov := rfl
@[simp] theorem State.endWaiting_ci (s : State) (d : Device) : (s.endWaiting d).ci = s.ci := rfl
@[simp] theorem State.endWaiting_rs (s : State) (d : Device) : (s.endWaiting d).rs = s.rs := rfl
@[simp] theorem State.endWaiting_wn (s : State) (d : Device) : (s.endWaiting d).wn = false := rfl
@[simp] theorem State.endWaiting_cyc (s : State) (d : Device) : (s.endWaiting d).cyc = s.cyc := rfl
@[simp] theorem State.endWaiting_mem (s : State) (d : Device) : (s.endWaiting d).mem = s.mem := rfl
@[simp] theorem State.endWaiting_desc (s : State) (d : Device) : (s.endWaiting d).desc = s.desc := rfl
@[simp] theorem State.endWaiting_busy (s : State) (d : Device) : (s.endWaiting d).busy = s.busy := rfl
@[simp] theorem State.endWaiting_signals (s : State) (d : Device) : (s.endWaiting d).signals = s.signals := rfl
@[simp] theorem State.endWaiting_runBudget (s : State) (d : Device) : (s.endWaiting d).runBudget = s.runBudget := rfl
@[simp] theorem State.endWaiting_sched (s : State) (d : Device) : (s.endWaiting d).sched = s.sched := rfl
@[simp] theorem State.endWaiting_trace (s : State) (d : Device) : (s.endWaiting d).trace = s.trace ++ [.notifyWaiting d false] := rfl
@[simp] theorem State.endWaiting_costTick (s : State) (d : Device) : (s.endWaiting d).costTick = s.costTick := rfl

@[simp] theorem State.endWaiting_reg (s : State) (d : Device) (num : Reg) : (s.endWaiting d).reg num = s.reg num := rfl
@[simp] theorem State.endWaiting_readMem (s : State) (d : Device) (adr : Addr) : (s.endWaiting d).readMem adr = s.readMem adr := rfl
@[simp] theorem State.endWaiting_isBusy (s : State) (d : Device) (dev : Device) : (s.endWaiting d).isBusy dev = s.isBusy dev := rfl
@[simp] theorem State.endWaiting_descOf (s : State) (d : Device) (dev : Device) : (s.endWaiting d).descOf dev = s.descOf dev := rfl

/-! ## popTurn -/

@[simp] theorem State.popTurn_regs (s : State) : (s.popTurn).regs = s.regs := rfl
@[simp] theorem State.popTurn_rJ (s : State) : (s.popTurn).rJ = s.rJ := rfl
@[simp] theorem State.popTurn_pc (s : State) : (s.popTurn).pc = s.pc := rfl
@[simp] theorem State.popTurn_ppc (s : State) : (s.popTurn).ppc = s.ppc := rfl
@[simp] theorem State.popTurn_ir (s : State) : (s.popTurn).ir = s.ir := rfl
@[simp] theorem State.popTurn_ov (s : State) : (s.popTurn).ov = s.ov := rfl
@[simp] theorem State.popTurn_ci (s : State) : (s.popTurn).ci = s.ci := rfl
@[simp] theorem State.popTurn_rs (s : State) : (s.popTurn).rs = s.rs := rfl
@[simp] theorem State.popTurn_wn (s : State) : (s.popTurn).wn = s.wn := rfl
@[simp] theorem State.popTurn_cyc (s : State) : (s.popTurn).cyc = s.cyc := rfl
@[simp] theorem State.popTurn_mem (s : State) : (s.popTurn).mem = s.mem := rfl
@[simp] theorem State.popTurn_desc (s : State) : (s.popTurn).desc = s.desc := rfl
@[simp] theorem State.popTurn_busy (s : State) : (s.popTurn).busy = s.busy := rfl
@[simp] theorem State.popTurn_signals (s : State) : (s.popTurn).signals = s.signals := rfl
@[simp] theorem State.popTurn_runBudget (s : State) : (s.popTurn).runBudget = s.runBudget := rfl
@[simp] theorem State.popTurn_sched (s : State) : (s.popTurn).sched = s.sched.tail := rfl
@[simp] theorem State.popTurn_trace (s : State) : (s.popTurn).trace = s.trace := rfl
@[simp] theorem State.popTurn_costTick (s : State) : (s.popTurn).costTick = s.costTick := rfl

@[simp] theorem State.popTurn_reg (s : State) (num : Reg) : (s.popTurn).reg num = s.reg num := rfl
@[simp] theorem State.popTurn_readMem (s : State) (adr : Addr) : (s.popTurn).readMem adr = s.readMem adr := rfl
@[simp] theorem State.popTurn_isBusy (s : State) (dev : Device) : (s.popTurn).isBusy dev = s.isBusy dev := rfl
@[simp] theorem State.popTurn_descOf (s : State) (dev : Device) : (s.popTurn).descOf dev = s.descOf dev := rfl

/-! ## Reads after the updates that write them -/

@[simp] theorem State.setReg_reg_same (s : State) (k : Reg) (w : Word) : (s.setReg k w).reg k = w :=
  RegFile.get_set_same s.regs k w

theorem State.setReg_reg (s : State) (k j : Reg) (w : Word) :
    (s.setReg k w).reg j = if j = k then w else s.reg j :=
  RegFile.get_set s.regs k j w

theorem State.setDesc_descOf (s : State) (d e : Device) (x : Desc) :
    (s.setDesc d x).descOf e = if e = d then x else s.descOf e := by
  simp only [State.descOf, State.setDesc, Vector.getElem_set]
  by_cases h : e = d
  · subst h; simp
  · have : d.val ≠ e.val := fun hv => h (Fin.ext hv.symm)
    simp [h, this]

/-- Operand evaluation sees neither warnings nor any other output. -/
@[simp] theorem State.warnAll_mRaw (s : State) (ws : List Warning) (m : AddrSpec) : (s.warnAll ws).mRaw m = s.mRaw m := rfl
@[simp] theorem State.warnAll_mAddr (s : State) (ws : List Warning) (m : AddrSpec) : (s.warnAll ws).mAddr m = s.mAddr m := rfl
@[simp] theorem State.warnAll_operand (s : State) (ws : List Warning) (m : AddrSpec) (f : Nat) :
    (s.warnAll ws).operand m f = s.operand m f := rfl
@[simp] theorem State.query_mRaw (s : State) (d : Device) (m : AddrSpec) : (s.query d).mRaw m = s.mRaw m := rfl
@[simp] theorem State.query_mAddr (s : State) (d : Device) (m : AddrSpec) : (s.query d).mAddr m = s.mAddr m := rfl
@[simp] theorem State.query_addrWarnings (s : State) (d : Device) (m : AddrSpec) :
    (s.query d).addrWarnings m = s.addrWarnings m := rfl

/-! ## A jump that may be taken -/

/-- A conditional jump either jumps or changes nothing. -/
theorem State.jumpIf_cases (s : State) (c : Bool) (t : Addr) :
    (c = true ∧ s.jumpIf c t = s.jump t) ∨ (c = false ∧ s.jumpIf c t = s) := by
  cases c
  · exact .inr ⟨rfl, rfl⟩
  · exact .inl ⟨rfl, rfl⟩

end Sys2Proof.Machine
end

