-- ==== Sys2Proof/Laws/Words.lean ====
section
/-! SUPPORT. The laws of the primitives on words (00_scope.md R9) and of the container (R8). -/

namespace Sys2Proof

@[simp] theorem word_neg (b : Bool) (m : Nat) : (word b m).neg = b := rfl

@[simp] theorem word_magnitude (b : Bool) (m : Nat) : (word b m).magnitude = m % 2 ^ 30 := by
  simp [word, Word.magnitude, BitVec.toNat_ofNat]

theorem Word.magnitude_lt (w : Word) : w.magnitude < 2 ^ 30 := w.mag.isLt

@[simp] theorem plusZero_neg : Word.plusZero.neg = false := rfl

@[simp] theorem plusZero_magnitude : Word.plusZero.magnitude = 0 := rfl

/-- A word is its sign and its magnitude. -/
theorem Word.ext_magnitude (v w : Word) (hs : v.neg = w.neg) (hm : v.magnitude = w.magnitude) : v = w := by
  obtain ⟨a, x⟩ := v
  obtain ⟨b, y⟩ := w
  simp only [Word.magnitude] at hs hm
  rw [hs, BitVec.eq_of_toNat_eq hm]

@[simp] theorem word_eta (w : Word) : word w.neg w.magnitude = w := by
  apply Word.ext_magnitude
  · rfl
  · rw [word_magnitude, Nat.mod_eq_of_lt w.magnitude_lt]

theorem Word.byte_lt (w : Word) (k : Nat) : w.byte k < 64 := Nat.mod_lt _ (by decide)

/-- A magnitude is the number of its five bytes. -/
theorem Word.magnitude_bytes (w : Word) :
    w.magnitude = w.byte 1 * 64 ^ 4 + w.byte 2 * 64 ^ 3 + w.byte 3 * 64 ^ 2 + w.byte 4 * 64 + w.byte 5 := by
  have := w.magnitude_lt
  simp only [Word.byte]
  omega

/-- The value lies within the magnitude. -/
theorem Word.val_natAbs (w : Word) : w.val.natAbs = w.magnitude := by
  unfold Word.val
  split <;> omega

/-- An exact result that fits 30 bits is re-encoded exactly. -/
theorem encode30_val (v : Int) (h : v.natAbs ≤ 2 ^ 30 - 1) : (encode30 v).val = v := by
  unfold Word.val encode30
  rw [word_neg, word_magnitude, Nat.mod_eq_of_lt (by omega)]
  by_cases hv : v < 0
  · rw [if_pos (by simpa using hv)]; omega
  · rw [if_neg (by simpa using hv)]; omega

/-- A word put together from five bytes has these bytes. -/
theorem word_ofBytes_bytes (b : Bool) (a1 a2 a3 a4 a5 : Nat) (h1 : a1 < 64) (h2 : a2 < 64) (h3 : a3 < 64) (h4 : a4 < 64)
    (h5 : a5 < 64) : (word b (ofBytes [a1, a2, a3, a4, a5])).bytes = [a1, a2, a3, a4, a5] := by
  simp only [Word.bytes, Word.byte, word_magnitude, ofBytes, List.foldl, List.cons.injEq, and_true]
  refine ⟨?_, ?_, ?_, ?_, ?_⟩ <;> omega

theorem overflows_eq (v : Int) : overflows v = decide (2 ^ 30 - 1 < v.natAbs) := rfl

end Sys2Proof
end

