-- ==== Sys2Proof/Laws/Exec.lean ====
section
/-! SUPPORT. What each family of instructions does, once per family: an instruction of the family by register number is one
shared operation, and the shared operations as record updates. -/

namespace Sys2Proof.Machine

/-! ## Families by register number -/

theorem exec_ldOf (k : Reg) (m : AddrSpec) (f : Nat) (s : State) :
    exec (.ldOf k m f) s = .next (s.loadField k m f) := by
  cases k <;> rfl

theorem exec_ldnOf (k : Reg) (m : AddrSpec) (f : Nat) (s : State) :
    exec (.ldnOf k m f) s = .next (s.loadNegField k m f) := by
  cases k <;> rfl

theorem exec_stOf (k : Reg) (m : AddrSpec) (f : Nat) (s : State) :
    exec (.stOf k m f) s = .next (s.storeField (s.reg k) m f) := by
  cases k <;> rfl

theorem exec_cmpOf (k : Reg) (m : AddrSpec) (f : Nat) (s : State) :
    exec (.cmpOf k m f) s = .next (s.compareReg k m f) := by
  cases k <;> rfl

theorem exec_incOf (k : Reg) (m : AddrSpec) (s : State) :
    exec (.incOf k m) s = .next (s.modify k m (s.mRaw m)) := by
  cases k <;> rfl

theorem exec_decOf (k : Reg) (m : AddrSpec) (s : State) :
    exec (.decOf k m) s = .next (s.modify k m (-s.mRaw m)) := by
  cases k <;> rfl

theorem exec_entOf (k : Reg) (m : AddrSpec) (s : State) :
    exec (.entOf k m) s = .next (s.enter k m (enterWord m (s.mRaw m))) := by
  cases k <;> rfl

theorem exec_ennOf (k : Reg) (m : AddrSpec) (s : State) :
    exec (.ennOf k m) s = .next (s.enter k m (enterNegWord m (s.mRaw m))) := by
  cases k <;> rfl

theorem exec_jnOf (k : Reg) (m : AddrSpec) (s : State) :
    exec (.jnOf k m) s = .next (s.branch (decide ((s.reg k).val < 0)) m) := by
  cases k <;> rfl

theorem exec_jzOf (k : Reg) (m : AddrSpec) (s : State) :
    exec (.jzOf k m) s = .next (s.branch (decide ((s.reg k).val = 0)) m) := by
  cases k <;> rfl

theorem exec_jpOf (k : Reg) (m : AddrSpec) (s : State) :
    exec (.jpOf k m) s = .next (s.branch (decide (0 < (s.reg k).val)) m) := by
  cases k <;> rfl

theorem exec_jnnOf (k : Reg) (m : AddrSpec) (s : State) :
    exec (.jnnOf k m) s = .next (s.branch (decide (0 ≤ (s.reg k).val)) m) := by
  cases k <;> rfl

theorem exec_jnzOf (k : Reg) (m : AddrSpec) (s : State) :
    exec (.jnzOf k m) s = .next (s.branch (decide ((s.reg k).val ≠ 0)) m) := by
  cases k <;> rfl

theorem exec_jnpOf (k : Reg) (m : AddrSpec) (s : State) :
    exec (.jnpOf k m) s = .next (s.branch (decide ((s.reg k).val ≤ 0)) m) := by
  cases k <;> rfl

/-! ## Warnings -/

@[simp] theorem State.warnAll_nil (s : State) : s.warnAll [] = s := by
  simp [State.warnAll]

theorem State.warnAll_append (s : State) (a b : List Warning) : (s.warnAll a).warnAll b = s.warnAll (a ++ b) := by
  simp [State.warnAll]

/-- The warnings of an unclamped address, as events. -/
@[simp] theorem map_indexWarnings (m : AddrSpec) :
    (indexWarnings m).map Event.warning = if 6 < m.idx then [.warning .w2] else [] := by
  unfold indexWarnings
  split <;> rfl

/-- The warnings of MOVE's own range checks, as events. -/
@[simp] theorem map_aboveRange (n : Int) :
    (aboveRange n).map Event.warning = if 3999 < n then [.warning .w3] else [] := by
  unfold aboveRange
  split <;> rfl

/-! ## The shared operations as record updates -/

theorem State.addTo_eq (s : State) (k : Reg) (d : Int) :
    s.addTo k d = { s with regs := s.regs.set k (encode30 ((s.reg k).val + d)), ov := s.ov || overflows ((s.reg k).val + d) } :=
  rfl

theorem State.modify_eq (s : State) (k : Reg) (m : AddrSpec) (d : Int) :
    s.modify k m d = { s with
      regs := s.regs.set k (encode30 ((s.reg k).val + d)), ov := s.ov || overflows ((s.reg k).val + d),
      trace := s.trace ++ (indexWarnings m).map Event.warning } :=
  rfl

theorem State.enter_eq (s : State) (k : Reg) (m : AddrSpec) (w : Word) :
    s.enter k m w = { s with regs := s.regs.set k w, trace := s.trace ++ (indexWarnings m).map Event.warning } :=
  rfl

theorem State.branch_eq (s : State) (c : Bool) (m : AddrSpec) :
    s.branch c m = if c = true then { s with
        rJ := BitVec.ofNat 12 s.pc.val, pc := s.mAddr m, trace := s.trace ++ (s.addrWarnings m).map Event.warning }
      else { s with trace := s.trace ++ (s.addrWarnings m).map Event.warning } := by
  cases c <;> rfl

/-- A branch on a decided proposition. -/
theorem State.branch_decide (s : State) (p : Prop) [Decidable p] (m : AddrSpec) :
    s.branch (decide p) m = if p then { s with
        rJ := BitVec.ofNat 12 s.pc.val, pc := s.mAddr m, trace := s.trace ++ (s.addrWarnings m).map Event.warning }
      else { s with trace := s.trace ++ (s.addrWarnings m).map Event.warning } := by
  by_cases h : p <;> simp [State.branch_eq, h]

theorem State.setPair_eq (s : State) (ax : Nat) :
    s.setPair ax = { s with regs := { s.regs with
      rA := word s.regs.rA.neg (ax / 2 ^ 30), rX := word s.regs.rX.neg (ax % 2 ^ 30) } } :=
  rfl

theorem State.setAMag_eq (s : State) (n : Nat) :
    s.setAMag n = { s with regs := { s.regs with rA := word s.regs.rA.neg n } } :=
  rfl

theorem State.multiply_eq (s : State) (v : Word) :
    s.multiply v = { s with regs := { s.regs with
      rA := word (decide (s.regs.rA.val * v.val < 0)) ((s.regs.rA.val * v.val).natAbs / 2 ^ 30),
      rX := word (decide (s.regs.rA.val * v.val < 0)) ((s.regs.rA.val * v.val).natAbs % 2 ^ 30) } } :=
  rfl

theorem State.toDecimal_eq (s : State) : s.toDecimal = { s with regs := { s.regs with
    rA := word s.regs.rA.neg (ofBytes (((decimalDigits s.regs.rA.magnitude).map digitCode).take 5)),
    rX := word s.regs.rX.neg (ofBytes (((decimalDigits s.regs.rA.magnitude).map digitCode).drop 5)) } } :=
  rfl

/-- The index registers are not rA and not rX. -/
theorem indexReg_ne (i : Nat) (k : Reg) (h : indexReg i = some k) : k ≠ .a ∧ k ≠ .x := by
  unfold indexReg at h
  split at h <;> simp at h <;> subst h <;> simp

/-- Effective addresses do not depend on rA and rX. -/
theorem State.mRaw_withAX (s : State) (a x : Word) (m : AddrSpec) :
    { s with regs := { s.regs with rA := a, rX := x } }.mRaw m = s.mRaw m := by
  unfold State.mRaw State.indexValue
  cases hk : indexReg m.idx with
  | none => rfl
  | some k =>
    have := indexReg_ne m.idx k hk
    cases k <;> first | rfl | simp at this

/-- Nor do operands. -/
theorem State.operand_withAX (s : State) (a x : Word) (m : AddrSpec) (f : Nat) :
    { s with regs := { s.regs with rA := a, rX := x } }.operand m f = s.operand m f := by
  unfold State.operand State.mAddr
  rw [State.mRaw_withAX]
  rfl

theorem State.divide_fits (s : State) (v : Word) (h : (s.reg .a).magnitude < v.magnitude) :
    s.divide v = { s with regs := { s.regs with
      rA := word (s.regs.rA.neg ^^ v.neg) ((s.regs.rA.magnitude * 2 ^ 30 + s.regs.rX.magnitude) / v.magnitude),
      rX := word s.regs.rA.neg ((s.regs.rA.magnitude * 2 ^ 30 + s.regs.rX.magnitude) % v.magnitude) } } := by
  unfold State.divide
  rw [if_neg (by omega)]
  rfl

theorem State.divide_overflow (s : State) (v : Word) (h : v.magnitude = 0 ∨ v.magnitude ≤ (s.reg .a).magnitude) :
    s.divide v = { s with ov := true } := by
  unfold State.divide
  rw [if_pos h]
  rfl

/-- The ten bytes of the pair after it is written are the ten base-64 digits. -/
theorem setPair_bytes (s : State) (n : Nat) (h : n < 2 ^ 60) :
    (s.setPair n).regs.rA.bytes ++ (s.setPair n).regs.rX.bytes =
      [n / 64 ^ 9 % 64, n / 64 ^ 8 % 64, n / 64 ^ 7 % 64, n / 64 ^ 6 % 64, n / 64 ^ 5 % 64,
       n / 64 ^ 4 % 64, n / 64 ^ 3 % 64, n / 64 ^ 2 % 64, n / 64 % 64, n % 64] := by
  rw [State.setPair_eq]
  simp only [Word.bytes, Word.byte, word_magnitude, List.cons_append, List.nil_append, List.cons.injEq, and_true]
  refine ⟨?_, ?_, ?_, ?_, ?_, ?_, ?_, ?_, ?_, ?_⟩ <;> omega

theorem State.shift_negative (s : State) (m : AddrSpec) (body : State → Int → State) (h : s.mRaw m < 0) :
    s.shift m body = s.warnAll (indexWarnings m ++ [.w6]) :=
  if_pos h

theorem State.shift_count (s : State) (m : AddrSpec) (body : State → Int → State) (h : 0 ≤ s.mRaw m) :
    s.shift m body = body (s.warnAll (indexWarnings m)) (s.mRaw m) :=
  if_neg (by omega)

/-! ## Costs -/

/-- At one state, the cost of a MOVE does not fall as its count grows (R343). -/
theorem moveCost_mono (m : AddrSpec) (s : State) (f g : Nat) (h : f ≤ g) : moveCost m s f ≤ moveCost m s g := by
  induction h with
  | refl => exact Nat.le_refl _
  | step _ ih => exact Nat.le_trans ih (Nat.le_add_right _ _)

/-! ## Devices -/

@[simp] theorem deviceOf_val (d : Device) : deviceOf d.val = some d := by
  simp [deviceOf]

theorem deviceOf_above (f : Nat) (h : 20 < f) : deviceOf f = none := by
  unfold deviceOf
  rw [dif_neg (by omega)]

@[simp] theorem State.withDevice_val (s : State) (d : Device) (body : State → Device → State) :
    s.withDevice d.val body = body s d := by
  simp [State.withDevice]

theorem State.withDevice_above (s : State) (f : Nat) (body : State → Device → State) (h : 20 < f) :
    s.withDevice f body = s.warnAll [.w4] := by
  simp [State.withDevice, deviceOf_above f h]

theorem State.whenFree_busy (s : State) (d : Device) (go : State → State) (h : s.isBusy d = true) :
    s.whenFree d go = (s.query d).waitForDevice d :=
  if_pos h

theorem State.whenFree_free (s : State) (d : Device) (go : State → State) (h : s.isBusy d = false) :
    s.whenFree d go = go (s.query d) :=
  if_neg (by simp [h])

end Sys2Proof.Machine
end

