-- ==== Sys2Proof/Laws/Families.lean ====
section
/-! SUPPORT. The instructions by family: what holds of every instruction is shown once per family by register number and
once per other instruction. -/

namespace Sys2Proof

theorem Instr.byFamily {P : Instr → Prop}
    (fam_ld : ∀ (k : Reg) (m : AddrSpec) (f : Nat), P (.ldOf k m f))
    (fam_ldn : ∀ (k : Reg) (m : AddrSpec) (f : Nat), P (.ldnOf k m f))
    (fam_st : ∀ (k : Reg) (m : AddrSpec) (f : Nat), P (.stOf k m f))
    (fam_cmp : ∀ (k : Reg) (m : AddrSpec) (f : Nat), P (.cmpOf k m f))
    (fam_inc : ∀ (k : Reg) (m : AddrSpec), P (.incOf k m))
    (fam_dec : ∀ (k : Reg) (m : AddrSpec), P (.decOf k m))
    (fam_ent : ∀ (k : Reg) (m : AddrSpec), P (.entOf k m))
    (fam_enn : ∀ (k : Reg) (m : AddrSpec), P (.ennOf k m))
    (fam_jn : ∀ (k : Reg) (m : AddrSpec), P (.jnOf k m))
    (fam_jz : ∀ (k : Reg) (m : AddrSpec), P (.jzOf k m))
    (fam_jp : ∀ (k : Reg) (m : AddrSpec), P (.jpOf k m))
    (fam_jnn : ∀ (k : Reg) (m : AddrSpec), P (.jnnOf k m))
    (fam_jnz : ∀ (k : Reg) (m : AddrSpec), P (.jnzOf k m))
    (fam_jnp : ∀ (k : Reg) (m : AddrSpec), P (.jnpOf k m))
    (one_nop : ∀ (m : AddrSpec) (f : Nat), P (.nop m f))
    (one_add : ∀ (m : AddrSpec) (f : Nat), P (.add m f))
    (one_sub : ∀ (m : AddrSpec) (f : Nat), P (.sub m f))
    (one_mul : ∀ (m : AddrSpec) (f : Nat), P (.mul m f))
    (one_div : ∀ (m : AddrSpec) (f : Nat), P (.div m f))
    (one_num : ∀ (m : AddrSpec), P (.num m))
    (one_char : ∀ (m : AddrSpec), P (.char m))
    (one_hlt : ∀ (m : AddrSpec), P (.hlt m))
    (one_sla : ∀ (m : AddrSpec), P (.sla m))
    (one_sra : ∀ (m : AddrSpec), P (.sra m))
    (one_slax : ∀ (m : AddrSpec), P (.slax m))
    (one_srax : ∀ (m : AddrSpec), P (.srax m))
    (one_slc : ∀ (m : AddrSpec), P (.slc m))
    (one_src : ∀ (m : AddrSpec), P (.src m))
    (one_move : ∀ (m : AddrSpec) (f : Nat), P (.move m f))
    (one_stj : ∀ (m : AddrSpec) (f : Nat), P (.stj m f))
    (one_stz : ∀ (m : AddrSpec) (f : Nat), P (.stz m f))
    (one_jbus : ∀ (m : AddrSpec) (f : Nat), P (.jbus m f))
    (one_ioc : ∀ (m : AddrSpec) (f : Nat), P (.ioc m f))
    (one_inp : ∀ (m : AddrSpec) (f : Nat), P (.inp m f))
    (one_out : ∀ (m : AddrSpec) (f : Nat), P (.out m f))
    (one_jred : ∀ (m : AddrSpec) (f : Nat), P (.jred m f))
    (one_jmp : ∀ (m : AddrSpec), P (.jmp m))
    (one_jsj : ∀ (m : AddrSpec), P (.jsj m))
    (one_jov : ∀ (m : AddrSpec), P (.jov m))
    (one_jnov : ∀ (m : AddrSpec), P (.jnov m))
    (one_jl : ∀ (m : AddrSpec), P (.jl m))
    (one_je : ∀ (m : AddrSpec), P (.je m))
    (one_jg : ∀ (m : AddrSpec), P (.jg m))
    (one_jge : ∀ (m : AddrSpec), P (.jge m))
    (one_jne : ∀ (m : AddrSpec), P (.jne m))
    (one_jle : ∀ (m : AddrSpec), P (.jle m)) :
    ∀ i : Instr, P i
  | .nop m f => one_nop m f
  | .add m f => one_add m f
  | .sub m f => one_sub m f
  | .mul m f => one_mul m f
  | .div m f => one_div m f
  | .num m => one_num m
  | .char m => one_char m
  | .hlt m => one_hlt m
  | .sla m => one_sla m
  | .sra m => one_sra m
  | .slax m => one_slax m
  | .srax m => one_srax m
  | .slc m => one_slc m
  | .src m => one_src m
  | .move m f => one_move m f
  | .lda m f => fam_ld .a m f
  | .ld1 m f => fam_ld .i1 m f
  | .ld2 m f => fam_ld .i2 m f
  | .ld3 m f => fam_ld .i3 m f
  | .ld4 m f => fam_ld .i4 m f
  | .ld5 m f => fam_ld .i5 m f
  | .ld6 m f => fam_ld .i6 m f
  | .ldx m f => fam_ld .x m f
  | .ldan m f => fam_ldn .a m f
  | .ld1n m f => fam_ldn .i1 m f
  | .ld2n m f => fam_ldn .i2 m f
  | .ld3n m f => fam_ldn .i3 m f
  | .ld4n m f => fam_ldn .i4 m f
  | .ld5n m f => fam_ldn .i5 m f
  | .ld6n m f => fam_ldn .i6 m f
  | .ldxn m f => fam_ldn .x m f
  | .sta m f => fam_st .a m f
  | .st1 m f => fam_st .i1 m f
  | .st2 m f => fam_st .i2 m f
  | .st3 m f => fam_st .i3 m f
  | .st4 m f => fam_st .i4 m f
  | .st5 m f => fam_st .i5 m f
  | .st6 m f => fam_st .i6 m f
  | .stx m f => fam_st .x m f
  | .stj m f => one_stj m f
  | .stz m f => one_stz m f
  | .jbus m f => one_jbus m f
  | .ioc m f => one_ioc m f
  | .inp m f => one_inp m f
  | .out m f => one_out m f
  | .jred m f => one_jred m f
  | .jmp m => one_jmp m
  | .jsj m => one_jsj m
  | .jov m => one_jov m
  | .jnov m => one_jnov m
  | .jl m => one_jl m
  | .je m => one_je m
  | .jg m => one_jg m
  | .jge m => one_jge m
  | .jne m => one_jne m
  | .jle m => one_jle m
  | .jan m => fam_jn .a m
  | .jaz m => fam_jz .a m
  | .jap m => fam_jp .a m
  | .jann m => fam_jnn .a m
  | .janz m => fam_jnz .a m
  | .janp m => fam_jnp .a m
  | .j1n m => fam_jn .i1 m
  | .j1z m => fam_jz .i1 m
  | .j1p m => fam_jp .i1 m
  | .j1nn m => fam_jnn .i1 m
  | .j1nz m => fam_jnz .i1 m
  | .j1np m => fam_jnp .i1 m
  | .j2n m => fam_jn .i2 m
  | .j2z m => fam_jz .i2 m
  | .j2p m => fam_jp .i2 m
  | .j2nn m => fam_jnn .i2 m
  | .j2nz m => fam_jnz .i2 m
  | .j2np m => fam_jnp .i2 m
  | .j3n m => fam_jn .i3 m
  | .j3z m => fam_jz .i3 m
  | .j3p m => fam_jp .i3 m
  | .j3nn m => fam_jnn .i3 m
  | .j3nz m => fam_jnz .i3 m
  | .j3np m => fam_jnp .i3 m
  | .j4n m => fam_jn .i4 m
  | .j4z m => fam_jz .i4 m
  | .j4p m => fam_jp .i4 m
  | .j4nn m => fam_jnn .i4 m
  | .j4nz m => fam_jnz .i4 m
  | .j4np m => fam_jnp .i4 m
  | .j5n m => fam_jn .i5 m
  | .j5z m => fam_jz .i5 m
  | .j5p m => fam_jp .i5 m
  | .j5nn m => fam_jnn .i5 m
  | .j5nz m => fam_jnz .i5 m
  | .j5np m => fam_jnp .i5 m
  | .j6n m => fam_jn .i6 m
  | .j6z m => fam_jz .i6 m
  | .j6p m => fam_jp .i6 m
  | .j6nn m => fam_jnn .i6 m
  | .j6nz m => fam_jnz .i6 m
  | .j6np m => fam_jnp .i6 m
  | .jxn m => fam_jn .x m
  | .jxz m => fam_jz .x m
  | .jxp m => fam_jp .x m
  | .jxnn m => fam_jnn .x m
  | .jxnz m => fam_jnz .x m
  | .jxnp m => fam_jnp .x m
  | .inca m => fam_inc .a m
  | .deca m => fam_dec .a m
  | .enta m => fam_ent .a m
  | .enna m => fam_enn .a m
  | .inc1 m => fam_inc .i1 m
  | .dec1 m => fam_dec .i1 m
  | .ent1 m => fam_ent .i1 m
  | .enn1 m => fam_enn .i1 m
  | .inc2 m => fam_inc .i2 m
  | .dec2 m => fam_dec .i2 m
  | .ent2 m => fam_ent .i2 m
  | .enn2 m => fam_enn .i2 m
  | .inc3 m => fam_inc .i3 m
  | .dec3 m => fam_dec .i3 m
  | .ent3 m => fam_ent .i3 m
  | .enn3 m => fam_enn .i3 m
  | .inc4 m => fam_inc .i4 m
  | .dec4 m => fam_dec .i4 m
  | .ent4 m => fam_ent .i4 m
  | .enn4 m => fam_enn .i4 m
  | .inc5 m => fam_inc .i5 m
  | .dec5 m => fam_dec .i5 m
  | .ent5 m => fam_ent .i5 m
  | .enn5 m => fam_enn .i5 m
  | .inc6 m => fam_inc .i6 m
  | .dec6 m => fam_dec .i6 m
  | .ent6 m => fam_ent .i6 m
  | .enn6 m => fam_enn .i6 m
  | .incx m => fam_inc .x m
  | .decx m => fam_dec .x m
  | .entx m => fam_ent .x m
  | .ennx m => fam_enn .x m
  | .cmpa m f => fam_cmp .a m f
  | .cmp1 m f => fam_cmp .i1 m f
  | .cmp2 m f => fam_cmp .i2 m f
  | .cmp3 m f => fam_cmp .i3 m f
  | .cmp4 m f => fam_cmp .i4 m f
  | .cmp5 m f => fam_cmp .i5 m f
  | .cmp6 m f => fam_cmp .i6 m f
  | .cmpx m f => fam_cmp .x m f

end Sys2Proof
end

