-- ==== Sys2Proof/Laws/Memory.lean ====
section
/-! SUPPORT. The laws of memory: a read after a write, and that every memory operation keeps the canonical form. -/

namespace Sys2Proof.Machine

/-! ## Reads below the first cell -/

/-- Nothing is listed below the bound of a canonical memory. -/
theorem Memory.read_below (m : Memory) (lo a : Nat) (h : Memory.wfFrom lo m = true) (ha : a < lo) :
    Memory.read m a = Word.plusZero := by
  induction m generalizing lo with
  | nil => rfl
  | cons c m ih =>
    obtain ⟨b, v⟩ := c
    simp only [Memory.wfFrom, Bool.and_eq_true, decide_eq_true_eq] at h
    have hb : a ≠ b := by omega
    simp only [Memory.read, if_neg hb]
    exact ih (b + 1) h.2 (by omega)

/-- A lower bound may be lowered. -/
theorem Memory.wfFrom_mono (m : Memory) (lo lo' : Nat) (h : Memory.wfFrom lo m = true) (hl : lo' ≤ lo) :
    Memory.wfFrom lo' m = true := by
  cases m with
  | nil => rfl
  | cons c m =>
    obtain ⟨b, v⟩ := c
    simp only [Memory.wfFrom, Bool.and_eq_true, decide_eq_true_eq] at h ⊢
    exact ⟨⟨⟨by omega, h.1.1.2⟩, h.1.2⟩, h.2⟩

/-! ## Read after write -/

/-- A write leaves every other address alone, in any memory in canonical form. -/
theorem Memory.read_write_other (m : Memory) (lo a b : Nat) (w : Word) (h : Memory.wfFrom lo m = true) (hab : b ≠ a) :
    Memory.read (Memory.write m a w) b = Memory.read m b := by
  induction m generalizing lo with
  | nil =>
    unfold Memory.write
    split
    · rfl
    · simp [Memory.read, hab]
  | cons c m ih =>
    obtain ⟨x, v⟩ := c
    simp only [Memory.wfFrom, Bool.and_eq_true, decide_eq_true_eq] at h
    unfold Memory.write
    split
    · split
      · rfl
      · simp [Memory.read, hab]
    · split
      · next hax =>
        subst hax
        split <;> simp [Memory.read, hab]
      · simp only [Memory.read]
        split
        · rfl
        · exact ih (x + 1) h.2

/-- A read after a write to the same address gives the word written. -/
theorem Memory.read_write_same (m : Memory) (lo a : Nat) (w : Word) (h : Memory.wfFrom lo m = true) :
    Memory.read (Memory.write m a w) a = w := by
  induction m generalizing lo with
  | nil =>
    unfold Memory.write
    split
    · next hw => simp [Memory.read, hw]
    · simp [Memory.read]
  | cons c m ih =>
    obtain ⟨x, v⟩ := c
    simp only [Memory.wfFrom, Bool.and_eq_true, decide_eq_true_eq] at h
    unfold Memory.write
    split
    · next hlt =>
      split
      · next hw =>
        have hx : a ≠ x := by omega
        rw [Memory.read, if_neg hx, hw]
        exact Memory.read_below m (x + 1) a h.2 (by omega)
      · simp [Memory.read]
    · split
      · next hax =>
        split
        · next hw =>
          rw [hw]
          exact Memory.read_below m (x + 1) a h.2 (by omega)
        · simp [Memory.read]
      · next hne =>
        rw [Memory.read, if_neg hne]
        exact ih (x + 1) h.2

/-! ## The canonical form is kept -/

theorem Memory.wfFrom_write (m : Memory) (lo a : Nat) (w : Word) (h : Memory.wfFrom lo m = true) (hl : lo ≤ a)
    (ha : a < 4000) : Memory.wfFrom lo (Memory.write m a w) = true := by
  induction m generalizing lo with
  | nil =>
    unfold Memory.write
    split
    · rfl
    · next hw => simp [Memory.wfFrom, hl, ha, hw]
  | cons c m ih =>
    obtain ⟨x, v⟩ := c
    have h0 := h
    simp only [Memory.wfFrom, Bool.and_eq_true, decide_eq_true_eq] at h
    unfold Memory.write
    split
    · next hlt =>
      split
      · exact h0
      · next hw =>
        simp only [Memory.wfFrom, Bool.and_eq_true, decide_eq_true_eq]
        exact ⟨⟨⟨hl, ha⟩, hw⟩, ⟨⟨⟨by omega, h.1.1.2⟩, h.1.2⟩, h.2⟩⟩
    · split
      · next hax =>
        subst hax
        split
        · exact Memory.wfFrom_mono m (a + 1) lo h.2 (by omega)
        · next hw =>
          simp only [Memory.wfFrom, Bool.and_eq_true, decide_eq_true_eq]
          exact ⟨⟨⟨hl, ha⟩, hw⟩, h.2⟩
      · next hne =>
        simp only [Memory.wfFrom, Bool.and_eq_true, decide_eq_true_eq]
        exact ⟨h.1, ih (x + 1) h.2 (by omega)⟩

/-- The one memory operation keeps the canonical form. -/
theorem Memory.wf_write (m : Memory) (a : Addr) (w : Word) (h : Memory.wf m = true) :
    Memory.wf (Memory.write m a.val w) = true :=
  Memory.wfFrom_write m 0 a.val w h (Nat.zero_le _) a.isLt

/-- Canonical memories that read alike are equal data. -/
theorem Memory.ext_read (m n : Memory) (lo : Nat) (hm : Memory.wfFrom lo m = true) (hn : Memory.wfFrom lo n = true)
    (h : ∀ a, lo ≤ a → Memory.read m a = Memory.read n a) : m = n := by
  induction m generalizing lo n with
  | nil =>
    cases n with
    | nil => rfl
    | cons c n =>
      obtain ⟨b, v⟩ := c
      simp only [Memory.wfFrom, Bool.and_eq_true, decide_eq_true_eq] at hn
      have := h b hn.1.1.1
      simp only [Memory.read, if_true] at this
      exact absurd this.symm hn.1.2
  | cons c m ih =>
    obtain ⟨b, v⟩ := c
    have hm0 := hm
    simp only [Memory.wfFrom, Bool.and_eq_true, decide_eq_true_eq] at hm
    cases n with
    | nil =>
      have := h b hm.1.1.1
      simp only [Memory.read, if_true] at this
      exact absurd this hm.1.2
    | cons d n =>
      obtain ⟨x, y⟩ := d
      have hn0 := hn
      simp only [Memory.wfFrom, Bool.and_eq_true, decide_eq_true_eq] at hn
      rcases Nat.lt_trichotomy b x with hlt | heq | hgt
      · have := h b hm.1.1.1
        rw [Memory.read, if_pos rfl, Memory.read, if_neg (by omega),
          Memory.read_below n (x + 1) b hn.2 (by omega)] at this
        exact absurd this hm.1.2
      · subst heq
        have hv := h b hm.1.1.1
        simp only [Memory.read, if_true] at hv
        subst hv
        rw [ih n (b + 1) hm.2 hn.2 fun a ha => by
          have := h a (by omega)
          rwa [Memory.read, if_neg (by omega), Memory.read, if_neg (by omega)] at this]
      · have := h x hn.1.1.1
        rw [Memory.read, if_neg (by omega), Memory.read_below m (b + 1) x hm.2 (by omega), Memory.read, if_pos rfl] at this
        exact absurd this.symm hn.1.2

/-! ## On the state -/

theorem State.writeMem_readMem_same (s : State) (a : Addr) (w : Word) (h : Memory.wf s.mem = true) :
    (s.writeMem a w).readMem a = w :=
  Memory.read_write_same s.mem 0 a.val w h

theorem State.writeMem_readMem_other (s : State) (a b : Addr) (w : Word) (h : Memory.wf s.mem = true) (hab : b ≠ a) :
    (s.writeMem a w).readMem b = s.readMem b :=
  Memory.read_write_other s.mem 0 a.val b.val w h fun hv => hab (Fin.ext hv)

theorem State.writeMem_wf (s : State) (a : Addr) (w : Word) (h : Memory.wf s.mem = true) :
    Memory.wf (s.writeMem a w).mem = true :=
  Memory.wf_write s.mem a w h

end Sys2Proof.Machine
end

