-- ==== Sys2Proof/Laws/Transfer.lean ====
section
/-! SUPPORT. The laws of the loops over memory: the block mover and the four stream adapters. -/

namespace Sys2Proof.Machine

theorem Addr.next_val (a : Addr) : (Addr.next a).val = (a.val + 1) % 4000 := rfl

theorem Addr.advance_val (a : Addr) (n : Nat) : (Addr.advance a n).val = (a.val + n) % 4000 := rfl

@[simp] theorem Addr.advance_zero (a : Addr) : Addr.advance a 0 = a := by
  apply Fin.ext
  have := a.isLt
  simp only [Addr.advance_val]
  omega

theorem Addr.advance_next (a : Addr) (n : Nat) : Addr.advance (Addr.next a) n = Addr.advance a (n + 1) := by
  apply Fin.ext
  simp only [Addr.advance_val, Addr.next_val]
  omega

/-! ## The block mover -/

/-- MOVE's loop changes nothing but memory. -/
theorem State.moveWords_eq (s : State) (src dst : Addr) (n : Nat) :
    s.moveWords src dst n = { s with mem := (s.moveWords src dst n).mem } := by
  induction n generalizing s src dst with
  | zero => rfl
  | succ n ih => rw [State.moveWords, ih]; rfl

theorem State.moveWords_wf (s : State) (src dst : Addr) (n : Nat) (h : Memory.wf s.mem = true) :
    Memory.wf (s.moveWords src dst n).mem = true := by
  induction n generalizing s src dst with
  | zero => exact h
  | succ n ih => exact ih _ _ _ (State.writeMem_wf s dst _ h)

/-- MOVE's loop leaves every address outside the destination alone. -/
theorem State.moveWords_other (s : State) (src dst : Addr) (n : Nat) (h : Memory.wf s.mem = true) (a : Addr)
    (ha : ∀ j, j < n → a ≠ Addr.advance dst j) : (s.moveWords src dst n).readMem a = s.readMem a := by
  induction n generalizing s src dst with
  | zero => rfl
  | succ n ih =>
    rw [State.moveWords, ih _ _ _ (State.writeMem_wf s dst _ h) fun j hj => by
      rw [Addr.advance_next]; exact ha (j + 1) (by omega)]
    have h0 := ha 0 (by omega)
    rw [Addr.advance_zero] at h0
    exact State.writeMem_readMem_other s dst a _ h h0

/-- The last word of a move is moved last. -/
theorem State.moveWords_succ (s : State) (src dst : Addr) (n : Nat) :
    s.moveWords src dst (n + 1) =
      (s.moveWords src dst n).writeMem (Addr.advance dst n)
        ((s.moveWords src dst n).readMem (Addr.advance src n)) := by
  induction n generalizing s src dst with
  | zero => simp [State.moveWords]
  | succ n ih => rw [State.moveWords, ih, Addr.advance_next, Addr.advance_next]; rfl

/-! ## The word adapters -/

theorem readWordsFrom_cursor (mem : Memory) (a : Addr) (n : Nat) : (readWordsFrom mem a n).2 = Addr.advance a n := by
  induction n generalizing a with
  | zero => exact (Addr.advance_zero a).symm
  | succ n ih => exact (ih (Addr.next a)).trans (Addr.advance_next a n)

theorem readWordsFrom_words (mem : Memory) (a : Addr) (n : Nat) :
    (readWordsFrom mem a n).1 = (List.range n).map fun j => (Memory.read mem (Addr.advance a j).val).toContainer := by
  induction n generalizing a with
  | zero => rfl
  | succ n ih =>
    rw [List.range_succ_eq_map, List.map_cons, List.map_map, Addr.advance_zero, readWordsFrom, ih]
    refine congrArg (List.cons _) (List.map_congr_left fun j _ => ?_)
    exact congrArg (fun b : Addr => (Memory.read mem b.val).toContainer) (Addr.advance_next a j)

theorem writeWordsTo_cursor (mem : Memory) (a : Addr) (ws : List (BitVec 32)) :
    (writeWordsTo mem a ws).2 = Addr.advance a ws.length := by
  induction ws generalizing mem a with
  | nil => exact (Addr.advance_zero a).symm
  | cons c cs ih => exact (ih _ (Addr.next a)).trans (Addr.advance_next a cs.length)

theorem writeWordsTo_wf (mem : Memory) (a : Addr) (ws : List (BitVec 32)) (h : Memory.wf mem = true) :
    Memory.wf (writeWordsTo mem a ws).1 = true := by
  induction ws generalizing mem a with
  | nil => exact h
  | cons c cs ih => exact ih _ _ (Memory.wf_write mem a _ h)

theorem writeWordsTo_other (mem : Memory) (a b : Addr) (ws : List (BitVec 32)) (h : Memory.wf mem = true)
    (hb : ∀ j, j < ws.length → b ≠ Addr.advance a j) :
    Memory.read (writeWordsTo mem a ws).1 b.val = Memory.read mem b.val := by
  induction ws generalizing mem a with
  | nil => rfl
  | cons c cs ih =>
    rw [writeWordsTo, ih _ _ (Memory.wf_write mem a _ h) fun j hj => by
      rw [Addr.advance_next]; exact hb (j + 1) (by simpa using hj)]
    have h0 := hb 0 (by simp)
    rw [Addr.advance_zero] at h0
    exact Memory.read_write_other mem 0 a.val b.val _ h fun hv => h0 (Fin.ext hv)

/-- A transfer of at most 4000 words puts word j at the j-th address of the buffer. -/
theorem writeWordsTo_word (mem : Memory) (a : Addr) (ws : List (BitVec 32)) (h : Memory.wf mem = true)
    (hl : ws.length ≤ 4000) (j : Nat) (hj : j < ws.length) :
    Memory.read (writeWordsTo mem a ws).1 (Addr.advance a j).val = Word.ofContainer ws[j] := by
  induction ws generalizing mem a j with
  | nil => simp at hj
  | cons c cs ih =>
    rw [List.length_cons] at hl hj
    cases j with
    | zero =>
      rw [writeWordsTo, writeWordsTo_other _ _ _ _ (Memory.wf_write mem a _ h), Addr.advance_zero]
      · exact Memory.read_write_same mem 0 a.val _ h
      · intro j hj' he
        have := congrArg Fin.val he
        have := a.isLt
        simp only [Addr.advance_val, Addr.next_val] at *
        omega
    | succ j =>
      rw [writeWordsTo, ← Addr.advance_next]
      exact ih _ _ (Memory.wf_write mem a _ h) (by omega) j (by omega)

/-! ## The character adapters -/

theorem writeCharsTo_append (mem : Memory) (c : CharCursor) (xs ys : List Nat) :
    writeCharsTo mem c (xs ++ ys) = writeCharsTo (writeCharsTo mem c xs).1 (writeCharsTo mem c xs).2 ys := by
  induction xs generalizing mem c with
  | nil => rfl
  | cons x xs ih => exact ih _ _

theorem writeCharsTo_wf (mem : Memory) (c : CharCursor) (xs : List Nat) (h : Memory.wf mem = true) :
    Memory.wf (writeCharsTo mem c xs).1 = true := by
  induction xs generalizing mem c with
  | nil => exact h
  | cons x xs ih =>
    apply ih
    unfold writeChar
    split
    · exact Memory.wf_write mem c.addr _ h
    · exact h

end Sys2Proof.Machine
end

