-- ==== Sys2Proof/Laws/Keeps.lean ====
section
/-! SUPPORT. What every instruction keeps, shown once per shared operation and put together by transitivity. -/

namespace Sys2Proof.Machine

/-- From `s` to `t` the parts of the invariant are kept, and the state an instruction never touches is the same. -/
structure Keeps (s t : State) : Prop where
  memory : Memory.wf s.mem = true → Memory.wf t.mem = true
  descriptors : (∀ d : Device, (s.descOf d).fits d = true) → ∀ d : Device, (t.descOf d).fits d = true
  waiting : waitingAgrees s.rs s.wn → waitingAgrees t.rs t.wn
  untouched : t.ir = s.ir ∧ t.ppc = s.ppc ∧ t.busy = s.busy ∧ t.signals = s.signals ∧ t.sched = s.sched ∧
    t.runBudget = s.runBudget ∧ t.cyc = s.cyc ∧ t.costTick = s.costTick

namespace Keeps

theorem refl (s : State) : Keeps s s := ⟨id, id, id, rfl, rfl, rfl, rfl, rfl, rfl, rfl, rfl⟩

theorem trans {s t u : State} (h : Keeps s t) (k : Keeps t u) : Keeps s u := by
  obtain ⟨a, b, c, d1, d2, d3, d4, d5, d6, d7, d8⟩ := h
  obtain ⟨a', b', c', e1, e2, e3, e4, e5, e6, e7, e8⟩ := k
  exact ⟨a' ∘ a, b' ∘ b, c' ∘ c, e1.trans d1, e2.trans d2, e3.trans d3, e4.trans d4, e5.trans d5, e6.trans d6,
    e7.trans d7, e8.trans d8⟩

/-! ## The primitive updates -/

theorem setReg (s : State) (k : Reg) (w : Word) : Keeps s (s.setReg k w) := ⟨id, id, id, rfl, rfl, rfl, rfl, rfl, rfl, rfl, rfl⟩

theorem setOV (s : State) (b : Bool) : Keeps s (s.setOV b) := ⟨id, id, id, rfl, rfl, rfl, rfl, rfl, rfl, rfl, rfl⟩

theorem setCI (s : State) (c : Comparison) : Keeps s (s.setCI c) := ⟨id, id, id, rfl, rfl, rfl, rfl, rfl, rfl, rfl, rfl⟩

theorem emit (s : State) (e : Event) : Keeps s (s.emit e) := ⟨id, id, id, rfl, rfl, rfl, rfl, rfl, rfl, rfl, rfl⟩

theorem warnAll (s : State) (ws : List Warning) : Keeps s (s.warnAll ws) :=
  ⟨id, id, id, rfl, rfl, rfl, rfl, rfl, rfl, rfl, rfl⟩

theorem jump (s : State) (a : Addr) : Keeps s (s.jump a) := ⟨id, id, id, rfl, rfl, rfl, rfl, rfl, rfl, rfl, rfl⟩

theorem jumpNoSave (s : State) (a : Addr) : Keeps s (s.jumpNoSave a) := ⟨id, id, id, rfl, rfl, rfl, rfl, rfl, rfl, rfl, rfl⟩

theorem writeMem (s : State) (a : Addr) (w : Word) : Keeps s (s.writeMem a w) :=
  ⟨State.writeMem_wf s a w, id, id, rfl, rfl, rfl, rfl, rfl, rfl, rfl, rfl⟩

theorem waitForDevice (s : State) (d : Device) : Keeps s (s.waitForDevice d) :=
  ⟨id, id, fun _ => rfl, rfl, rfl, rfl, rfl, rfl, rfl, rfl, rfl⟩

/-- A new descriptor fits its slot. -/
theorem newDesc_fits (d : Device) (dir : Direction) (a : Addr) : (newDesc d dir a).fits d = true := by
  unfold newDesc
  split
  · next h => simp [Desc.fits, blockUnits, h]
  · next h => simp only [Desc.fits, Bool.and_eq_true, decide_eq_true_eq]; omega

/-- Replacing one descriptor by one that fits keeps all fitting. -/
theorem setDesc_fits (s : State) (d : Device) (x : Desc) (hx : x.fits d = true)
    (h : ∀ e : Device, (s.descOf e).fits e = true) (e : Device) : ((s.setDesc d x).descOf e).fits e = true := by
  rw [State.setDesc_descOf]
  split
  · next he => rw [he]; exact hx
  · exact h e

theorem beginIO (s : State) (d : Device) (dir : Direction) (a : Addr) : Keeps s (s.beginIO d dir a) :=
  ⟨id, setDesc_fits s d _ (newDesc_fits d dir a), id, rfl, rfl, rfl, rfl, rfl, rfl, rfl, rfl⟩

/-! ## The shared operations -/

theorem addTo (s : State) (k : Reg) (v : Int) : Keeps s (s.addTo k v) := (setOV s _).trans (setReg _ k _)

theorem multiply (s : State) (v : Word) : Keeps s (s.multiply v) := (setReg s .a _).trans (setReg _ .x _)

theorem divide (s : State) (v : Word) : Keeps s (s.divide v) := by
  unfold State.divide
  simp only
  split
  · exact setOV s true
  · exact (setReg s .a _).trans (setReg _ .x _)

theorem setPair (s : State) (n : Nat) : Keeps s (s.setPair n) := (setReg s .a _).trans (setReg _ .x _)

theorem setAMag (s : State) (n : Nat) : Keeps s (s.setAMag n) := setReg s .a _

theorem shift (s : State) (m : AddrSpec) (body : State → Int → State) (h : ∀ u n, Keeps u (body u n)) :
    Keeps s (s.shift m body) := by
  unfold State.shift
  split
  · exact warnAll s _
  · exact (warnAll s _).trans (h _ _)

theorem jumpIf (s : State) (c : Bool) (a : Addr) : Keeps s (s.jumpIf c a) := by
  rcases State.jumpIf_cases s c a with ⟨_, e⟩ | ⟨_, e⟩ <;> rw [e]
  · exact jump s a
  · exact refl s

theorem branch (s : State) (c : Bool) (m : AddrSpec) : Keeps s (s.branch c m) := (warnAll s _).trans (jumpIf _ c _)

theorem moveWords (s : State) (src dst : Addr) (n : Nat) : Keeps s (s.moveWords src dst n) := by
  induction n generalizing s src dst with
  | zero => exact refl s
  | succ n ih => exact (writeMem s dst _).trans (ih _ _ _)

theorem withDevice (s : State) (f : Nat) (body : State → Device → State) (h : ∀ u d, Keeps u (body u d)) :
    Keeps s (s.withDevice f body) := by
  unfold State.withDevice
  split
  · exact warnAll s _
  · exact h _ _

theorem whenFree (s : State) (d : Device) (go : State → State) (h : ∀ u, Keeps u (go u)) : Keeps s (s.whenFree d go) := by
  unfold State.whenFree
  split
  · exact (emit s _).trans (waitForDevice _ d)
  · exact (emit s _).trans (h _)

theorem startTransfer (s : State) (m : AddrSpec) (dir : Direction) (d : Device) : Keeps s (s.startTransfer m dir d) :=
  (warnAll s _).trans (beginIO _ d dir _)

theorem control (s : State) (m : AddrSpec) (d : Device) : Keeps s (s.control m d) := by
  unfold State.control
  simp only
  split
  · exact (warnAll s _).trans (emit _ _)
  · exact (warnAll s _).trans (warnAll _ _)

theorem branchDevice (s : State) (m : AddrSpec) (b : Bool) (d : Device) : Keeps s (s.branchDevice m b d) :=
  ((warnAll s _).trans (emit _ _)).trans (jumpIf _ _ _)

end Keeps

/-! ## Every instruction -/

/-- Every instruction completes in every state: there is no fault and no refusal in the execute phase (R430). The parts of
the invariant are kept, the waiting latch's where the core was RUNNING. -/
theorem exec_keeps (i : Instr) (s : State) : ∃ t : State, exec i s = .next t ∧ (s.rs = .running → Keeps s t) := by
  induction i using Instr.byFamily with
  | fam_ld k m f => exact ⟨_, exec_ldOf k m f s, fun _ => (Keeps.warnAll s _).trans (Keeps.setReg _ k _)⟩
  | fam_ldn k m f => exact ⟨_, exec_ldnOf k m f s, fun _ => (Keeps.warnAll s _).trans (Keeps.setReg _ k _)⟩
  | fam_st k m f => exact ⟨_, exec_stOf k m f s, fun _ => (Keeps.warnAll s _).trans (Keeps.writeMem _ _ _)⟩
  | fam_cmp k m f => exact ⟨_, exec_cmpOf k m f s, fun _ => (Keeps.warnAll s _).trans (Keeps.setCI _ _)⟩
  | fam_inc k m => exact ⟨_, exec_incOf k m s, fun _ => (Keeps.warnAll s _).trans (Keeps.addTo _ k _)⟩
  | fam_dec k m => exact ⟨_, exec_decOf k m s, fun _ => (Keeps.warnAll s _).trans (Keeps.addTo _ k _)⟩
  | fam_ent k m => exact ⟨_, exec_entOf k m s, fun _ => (Keeps.warnAll s _).trans (Keeps.setReg _ k _)⟩
  | fam_enn k m => exact ⟨_, exec_ennOf k m s, fun _ => (Keeps.warnAll s _).trans (Keeps.setReg _ k _)⟩
  | fam_jn k m => exact ⟨_, exec_jnOf k m s, fun _ => Keeps.branch s _ m⟩
  | fam_jz k m => exact ⟨_, exec_jzOf k m s, fun _ => Keeps.branch s _ m⟩
  | fam_jp k m => exact ⟨_, exec_jpOf k m s, fun _ => Keeps.branch s _ m⟩
  | fam_jnn k m => exact ⟨_, exec_jnnOf k m s, fun _ => Keeps.branch s _ m⟩
  | fam_jnz k m => exact ⟨_, exec_jnzOf k m s, fun _ => Keeps.branch s _ m⟩
  | fam_jnp k m => exact ⟨_, exec_jnpOf k m s, fun _ => Keeps.branch s _ m⟩
  | one_nop m f => exact ⟨_, rfl, fun _ => Keeps.refl s⟩
  | one_add m f => exact ⟨_, rfl, fun _ => (Keeps.warnAll s _).trans (Keeps.addTo _ .a _)⟩
  | one_sub m f => exact ⟨_, rfl, fun _ => (Keeps.warnAll s _).trans (Keeps.addTo _ .a _)⟩
  | one_mul m f => exact ⟨_, rfl, fun _ => (Keeps.warnAll s _).trans (Keeps.multiply _ _)⟩
  | one_div m f => exact ⟨_, rfl, fun _ => (Keeps.warnAll s _).trans (Keeps.divide _ _)⟩
  | one_num m => exact ⟨_, rfl, fun _ => Keeps.setReg s .a _⟩
  | one_char m => exact ⟨_, rfl, fun _ => (Keeps.setReg s .a _).trans (Keeps.setReg _ .x _)⟩
  | one_hlt m => exact ⟨_, rfl, fun h => ⟨id, id, fun w => by rw [h] at w; exact w, rfl, rfl, rfl, rfl, rfl, rfl, rfl, rfl⟩⟩
  | one_sla m => exact ⟨_, rfl, fun _ => Keeps.shift s m _ fun u _ => Keeps.setAMag u _⟩
  | one_sra m => exact ⟨_, rfl, fun _ => Keeps.shift s m _ fun u _ => Keeps.setAMag u _⟩
  | one_slax m => exact ⟨_, rfl, fun _ => Keeps.shift s m _ fun u _ => Keeps.setPair u _⟩
  | one_srax m => exact ⟨_, rfl, fun _ => Keeps.shift s m _ fun u _ => Keeps.setPair u _⟩
  | one_slc m => exact ⟨_, rfl, fun _ => Keeps.shift s m _ fun u _ => Keeps.setPair u _⟩
  | one_src m => exact ⟨_, rfl, fun _ => Keeps.shift s m _ fun u _ => Keeps.setPair u _⟩
  | one_move m f =>
    refine ⟨_, rfl, fun _ => ?_⟩
    split
    · exact Keeps.refl s
    · split
      · exact Keeps.warnAll s _
      · exact ((Keeps.warnAll s _).trans (Keeps.moveWords _ _ _ f)).trans (Keeps.setReg _ .i1 _)
  | one_stj m f => exact ⟨_, rfl, fun _ => (Keeps.warnAll s _).trans (Keeps.writeMem _ _ _)⟩
  | one_stz m f => exact ⟨_, rfl, fun _ => (Keeps.warnAll s _).trans (Keeps.writeMem _ _ _)⟩
  | one_jbus m f => exact ⟨_, rfl, fun _ => Keeps.withDevice s f _ fun u d => Keeps.branchDevice u m true d⟩
  | one_ioc m f =>
    exact ⟨_, rfl, fun _ => Keeps.withDevice s f _ fun u d => Keeps.whenFree u d _ fun v => Keeps.control v m d⟩
  | one_inp m f =>
    exact ⟨_, rfl, fun _ => Keeps.withDevice s f _ fun u d => Keeps.whenFree u d _ fun v => Keeps.startTransfer v m _ d⟩
  | one_out m f =>
    exact ⟨_, rfl, fun _ => Keeps.withDevice s f _ fun u d => Keeps.whenFree u d _ fun v => Keeps.startTransfer v m _ d⟩
  | one_jred m f => exact ⟨_, rfl, fun _ => Keeps.withDevice s f _ fun u d => Keeps.branchDevice u m false d⟩
  | one_jmp m => exact ⟨_, rfl, fun _ => Keeps.branch s _ m⟩
  | one_jsj m => exact ⟨_, rfl, fun _ => (Keeps.warnAll s _).trans (Keeps.jumpNoSave _ _)⟩
  | one_jov m => exact ⟨_, rfl, fun _ => (Keeps.branch s _ m).trans (Keeps.setOV _ false)⟩
  | one_jnov m => exact ⟨_, rfl, fun _ => (Keeps.branch s _ m).trans (Keeps.setOV _ false)⟩
  | one_jl m => exact ⟨_, rfl, fun _ => Keeps.branch s _ m⟩
  | one_je m => exact ⟨_, rfl, fun _ => Keeps.branch s _ m⟩
  | one_jg m => exact ⟨_, rfl, fun _ => Keeps.branch s _ m⟩
  | one_jge m => exact ⟨_, rfl, fun _ => Keeps.branch s _ m⟩
  | one_jne m => exact ⟨_, rfl, fun _ => Keeps.branch s _ m⟩
  | one_jle m => exact ⟨_, rfl, fun _ => Keeps.branch s _ m⟩

/-! ## The core's move -/

/-- Where the core moves and no run transaction stops it, the step is the driver's. -/
theorem step_core (s : State) (h : s.nextTurn = .core) (hm : s.mayStep = true) : step s = driverStep s.popTurn := by
  unfold step
  rw [h]
  show coreStep s.popTurn = _
  unfold coreStep
  exact if_pos hm

/-- Where the core moves and is RUNNING, the step fetches and executes. -/
theorem step_runs (s : State) (h : s.runs) : step s = execFetched s.popTurn.fetch := by
  rw [step_core s h.1 h.2.2]
  unfold driverStep
  rw [State.popTurn_rs, h.2.1]
  rfl

end Sys2Proof.Machine
end

