-- ==== Sys2Proof/Laws/PerInstr.lean ====
section
/-! SUPPORT. For each instruction: its word lies in its own row of spec/opcode_table.json. The masks and matches are copied
from the table, not computed from the encoder. -/

namespace Sys2Proof.Laws.EncodingRow

/-- The mask of an instruction's row of spec/opcode_table.json. -/
def rowMask : Instr → BitVec 32
  | .nop _ _ => 0x0000003F
  | .add _ _ => 0x0000003F
  | .sub _ _ => 0x0000003F
  | .mul _ _ => 0x0000003F
  | .div _ _ => 0x0000003F
  | .num _ => 0x00000FFF
  | .char _ => 0x00000FFF
  | .hlt _ => 0x00000FFF
  | .sla _ => 0x00000FFF
  | .sra _ => 0x00000FFF
  | .slax _ => 0x00000FFF
  | .srax _ => 0x00000FFF
  | .slc _ => 0x00000FFF
  | .src _ => 0x00000FFF
  | .move _ _ => 0x0000003F
  | .lda _ _ => 0x0000003F
  | .ld1 _ _ => 0x0000003F
  | .ld2 _ _ => 0x0000003F
  | .ld3 _ _ => 0x0000003F
  | .ld4 _ _ => 0x0000003F
  | .ld5 _ _ => 0x0000003F
  | .ld6 _ _ => 0x0000003F
  | .ldx _ _ => 0x0000003F
  | .ldan _ _ => 0x0000003F
  | .ld1n _ _ => 0x0000003F
  | .ld2n _ _ => 0x0000003F
  | .ld3n _ _ => 0x0000003F
  | .ld4n _ _ => 0x0000003F
  | .ld5n _ _ => 0x0000003F
  | .ld6n _ _ => 0x0000003F
  | .ldxn _ _ => 0x0000003F
  | .sta _ _ => 0x0000003F
  | .st1 _ _ => 0x0000003F
  | .st2 _ _ => 0x0000003F
  | .st3 _ _ => 0x0000003F
  | .st4 _ _ => 0x0000003F
  | .st5 _ _ => 0x0000003F
  | .st6 _ _ => 0x0000003F
  | .stx _ _ => 0x0000003F
  | .stj _ _ => 0x0000003F
  | .stz _ _ => 0x0000003F
  | .jbus _ _ => 0x0000003F
  | .ioc _ _ => 0x0000003F
  | .inp _ _ => 0x0000003F
  | .out _ _ => 0x0000003F
  | .jred _ _ => 0x0000003F
  | .jmp _ => 0x00000FFF
  | .jsj _ => 0x00000FFF
  | .jov _ => 0x00000FFF
  | .jnov _ => 0x00000FFF
  | .jl _ => 0x00000FFF
  | .je _ => 0x00000FFF
  | .jg _ => 0x00000FFF
  | .jge _ => 0x00000FFF
  | .jne _ => 0x00000FFF
  | .jle _ => 0x00000FFF
  | .jan _ => 0x00000FFF
  | .jaz _ => 0x00000FFF
  | .jap _ => 0x00000FFF
  | .jann _ => 0x00000FFF
  | .janz _ => 0x00000FFF
  | .janp _ => 0x00000FFF
  | .j1n _ => 0x00000FFF
  | .j1z _ => 0x00000FFF
  | .j1p _ => 0x00000FFF
  | .j1nn _ => 0x00000FFF
  | .j1nz _ => 0x00000FFF
  | .j1np _ => 0x00000FFF
  | .j2n _ => 0x00000FFF
  | .j2z _ => 0x00000FFF
  | .j2p _ => 0x00000FFF
  | .j2nn _ => 0x00000FFF
  | .j2nz _ => 0x00000FFF
  | .j2np _ => 0x00000FFF
  | .j3n _ => 0x00000FFF
  | .j3z _ => 0x00000FFF
  | .j3p _ => 0x00000FFF
  | .j3nn _ => 0x00000FFF
  | .j3nz _ => 0x00000FFF
  | .j3np _ => 0x00000FFF
  | .j4n _ => 0x00000FFF
  | .j4z _ => 0x00000FFF
  | .j4p _ => 0x00000FFF
  | .j4nn _ => 0x00000FFF
  | .j4nz _ => 0x00000FFF
  | .j4np _ => 0x00000FFF
  | .j5n _ => 0x00000FFF
  | .j5z _ => 0x00000FFF
  | .j5p _ => 0x00000FFF
  | .j5nn _ => 0x00000FFF
  | .j5nz _ => 0x00000FFF
  | .j5np _ => 0x00000FFF
  | .j6n _ => 0x00000FFF
  | .j6z _ => 0x00000FFF
  | .j6p _ => 0x00000FFF
  | .j6nn _ => 0x00000FFF
  | .j6nz _ => 0x00000FFF
  | .j6np _ => 0x00000FFF
  | .jxn _ => 0x00000FFF
  | .jxz _ => 0x00000FFF
  | .jxp _ => 0x00000FFF
  | .jxnn _ => 0x00000FFF
  | .jxnz _ => 0x00000FFF
  | .jxnp _ => 0x00000FFF
  | .inca _ => 0x00000FFF
  | .deca _ => 0x00000FFF
  | .enta _ => 0x00000FFF
  | .enna _ => 0x00000FFF
  | .inc1 _ => 0x00000FFF
  | .dec1 _ => 0x00000FFF
  | .ent1 _ => 0x00000FFF
  | .enn1 _ => 0x00000FFF
  | .inc2 _ => 0x00000FFF
  | .dec2 _ => 0x00000FFF
  | .ent2 _ => 0x00000FFF
  | .enn2 _ => 0x00000FFF
  | .inc3 _ => 0x00000FFF
  | .dec3 _ => 0x00000FFF
  | .ent3 _ => 0x00000FFF
  | .enn3 _ => 0x00000FFF
  | .inc4 _ => 0x00000FFF
  | .dec4 _ => 0x00000FFF
  | .ent4 _ => 0x00000FFF
  | .enn4 _ => 0x00000FFF
  | .inc5 _ => 0x00000FFF
  | .dec5 _ => 0x00000FFF
  | .ent5 _ => 0x00000FFF
  | .enn5 _ => 0x00000FFF
  | .inc6 _ => 0x00000FFF
  | .dec6 _ => 0x00000FFF
  | .ent6 _ => 0x00000FFF
  | .enn6 _ => 0x00000FFF
  | .incx _ => 0x00000FFF
  | .decx _ => 0x00000FFF
  | .entx _ => 0x00000FFF
  | .ennx _ => 0x00000FFF
  | .cmpa _ _ => 0x0000003F
  | .cmp1 _ _ => 0x0000003F
  | .cmp2 _ _ => 0x0000003F
  | .cmp3 _ _ => 0x0000003F
  | .cmp4 _ _ => 0x0000003F
  | .cmp5 _ _ => 0x0000003F
  | .cmp6 _ _ => 0x0000003F
  | .cmpx _ _ => 0x0000003F

/-- The match of an instruction's row of spec/opcode_table.json. -/
def rowMatch : Instr → BitVec 32
  | .nop _ _ => 0x00000000
  | .add _ _ => 0x00000001
  | .sub _ _ => 0x00000002
  | .mul _ _ => 0x00000003
  | .div _ _ => 0x00000004
  | .num _ => 0x00000005
  | .char _ => 0x00000045
  | .hlt _ => 0x00000085
  | .sla _ => 0x00000006
  | .sra _ => 0x00000046
  | .slax _ => 0x00000086
  | .srax _ => 0x000000C6
  | .slc _ => 0x00000106
  | .src _ => 0x00000146
  | .move _ _ => 0x00000007
  | .lda _ _ => 0x00000008
  | .ld1 _ _ => 0x00000009
  | .ld2 _ _ => 0x0000000A
  | .ld3 _ _ => 0x0000000B
  | .ld4 _ _ => 0x0000000C
  | .ld5 _ _ => 0x0000000D
  | .ld6 _ _ => 0x0000000E
  | .ldx _ _ => 0x0000000F
  | .ldan _ _ => 0x00000010
  | .ld1n _ _ => 0x00000011
  | .ld2n _ _ => 0x00000012
  | .ld3n _ _ => 0x00000013
  | .ld4n _ _ => 0x00000014
  | .ld5n _ _ => 0x00000015
  | .ld6n _ _ => 0x00000016
  | .ldxn _ _ => 0x00000017
  | .sta _ _ => 0x00000018
  | .st1 _ _ => 0x00000019
  | .st2 _ _ => 0x0000001A
  | .st3 _ _ => 0x0000001B
  | .st4 _ _ => 0x0000001C
  | .st5 _ _ => 0x0000001D
  | .st6 _ _ => 0x0000001E
  | .stx _ _ => 0x0000001F
  | .stj _ _ => 0x00000020
  | .stz _ _ => 0x00000021
  | .jbus _ _ => 0x00000022
  | .ioc _ _ => 0x00000023
  | .inp _ _ => 0x00000024
  | .out _ _ => 0x00000025
  | .jred _ _ => 0x00000026
  | .jmp _ => 0x00000027
  | .jsj _ => 0x00000067
  | .jov _ => 0x000000A7
  | .jnov _ => 0x000000E7
  | .jl _ => 0x00000127
  | .je _ => 0x00000167
  | .jg _ => 0x000001A7
  | .jge _ => 0x000001E7
  | .jne _ => 0x00000227
  | .jle _ => 0x00000267
  | .jan _ => 0x00000028
  | .jaz _ => 0x00000068
  | .jap _ => 0x000000A8
  | .jann _ => 0x000000E8
  | .janz _ => 0x00000128
  | .janp _ => 0x00000168
  | .j1n _ => 0x00000029
  | .j1z _ => 0x00000069
  | .j1p _ => 0x000000A9
  | .j1nn _ => 0x000000E9
  | .j1nz _ => 0x00000129
  | .j1np _ => 0x00000169
  | .j2n _ => 0x0000002A
  | .j2z _ => 0x0000006A
  | .j2p _ => 0x000000AA
  | .j2nn _ => 0x000000EA
  | .j2nz _ => 0x0000012A
  | .j2np _ => 0x0000016A
  | .j3n _ => 0x0000002B
  | .j3z _ => 0x0000006B
  | .j3p _ => 0x000000AB
  | .j3nn _ => 0x000000EB
  | .j3nz _ => 0x0000012B
  | .j3np _ => 0x0000016B
  | .j4n _ => 0x0000002C
  | .j4z _ => 0x0000006C
  | .j4p _ => 0x000000AC
  | .j4nn _ => 0x000000EC
  | .j4nz _ => 0x0000012C
  | .j4np _ => 0x0000016C
  | .j5n _ => 0x0000002D
  | .j5z _ => 0x0000006D
  | .j5p _ => 0x000000AD
  | .j5nn _ => 0x000000ED
  | .j5nz _ => 0x0000012D
  | .j5np _ => 0x0000016D
  | .j6n _ => 0x0000002E
  | .j6z _ => 0x0000006E
  | .j6p _ => 0x000000AE
  | .j6nn _ => 0x000000EE
  | .j6nz _ => 0x0000012E
  | .j6np _ => 0x0000016E
  | .jxn _ => 0x0000002F
  | .jxz _ => 0x0000006F
  | .jxp _ => 0x000000AF
  | .jxnn _ => 0x000000EF
  | .jxnz _ => 0x0000012F
  | .jxnp _ => 0x0000016F
  | .inca _ => 0x00000030
  | .deca _ => 0x00000070
  | .enta _ => 0x000000B0
  | .enna _ => 0x000000F0
  | .inc1 _ => 0x00000031
  | .dec1 _ => 0x00000071
  | .ent1 _ => 0x000000B1
  | .enn1 _ => 0x000000F1
  | .inc2 _ => 0x00000032
  | .dec2 _ => 0x00000072
  | .ent2 _ => 0x000000B2
  | .enn2 _ => 0x000000F2
  | .inc3 _ => 0x00000033
  | .dec3 _ => 0x00000073
  | .ent3 _ => 0x000000B3
  | .enn3 _ => 0x000000F3
  | .inc4 _ => 0x00000034
  | .dec4 _ => 0x00000074
  | .ent4 _ => 0x000000B4
  | .enn4 _ => 0x000000F4
  | .inc5 _ => 0x00000035
  | .dec5 _ => 0x00000075
  | .ent5 _ => 0x000000B5
  | .enn5 _ => 0x000000F5
  | .inc6 _ => 0x00000036
  | .dec6 _ => 0x00000076
  | .ent6 _ => 0x000000B6
  | .enn6 _ => 0x000000F6
  | .incx _ => 0x00000037
  | .decx _ => 0x00000077
  | .entx _ => 0x000000B7
  | .ennx _ => 0x000000F7
  | .cmpa _ _ => 0x00000038
  | .cmp1 _ _ => 0x00000039
  | .cmp2 _ _ => 0x0000003A
  | .cmp3 _ _ => 0x0000003B
  | .cmp4 _ _ => 0x0000003C
  | .cmp5 _ _ => 0x0000003D
  | .cmp6 _ _ => 0x0000003E
  | .cmpx _ _ => 0x0000003F

/-- The container of the instruction's word has, under the row's mask, the row's match, and its bit 30 is 0. -/
def Statement (i : Instr) : Prop :=
  (encode i).toContainer &&& rowMask i = rowMatch i ∧ (encode i).toContainer.getLsbD 30 = false

/-- Bit 30 of a container is 0. -/
theorem bit30 (w : Word) : w.toContainer.getLsbD 30 = false := by
  have := w.mag.isLt
  rw [Word.toContainer, BitVec.getLsbD_ofNat, Nat.testBit_eq_decide_div_mod_eq]
  cases w.neg <;> simp <;> omega

/-- The container of an assembled word, as a number, modulo 4096. -/
theorem assemble_low (m : AddrSpec) (f c : Nat) :
    (assemble m f c).toContainer.toNat % 4096 = (f * 64 + c) % 4096 := by
  obtain ⟨b, aa, idx⟩ := m
  cases b <;> simp [assemble, Word.toContainer] <;> omega

/-- An opcode whose row fixes C alone. -/
theorem rowC (m : AddrSpec) (f c : Nat) (h : c < 64) : (assemble m f c).toContainer &&& 0x3F#32 = BitVec.ofNat 32 c := by
  apply BitVec.eq_of_toNat_eq
  have := assemble_low m f c
  rw [BitVec.toNat_and, show (0x3F#32).toNat = 2 ^ 6 - 1 from rfl, Nat.and_two_pow_sub_one_eq_mod, BitVec.toNat_ofNat]
  omega

/-- An opcode whose row fixes C and F. -/
theorem rowCF (m : AddrSpec) (f c : Nat) (hf : f < 64) (hc : c < 64) :
    (assemble m f c).toContainer &&& 0xFFF#32 = BitVec.ofNat 32 (f * 64 + c) := by
  apply BitVec.eq_of_toNat_eq
  have := assemble_low m f c
  rw [BitVec.toNat_and, show (0xFFF#32).toNat = 2 ^ 12 - 1 from rfl, Nat.and_two_pow_sub_one_eq_mod, BitVec.toNat_ofNat]
  omega

theorem nop (m : AddrSpec) (f : Nat) : Statement (.nop m f) := ⟨rowC m f 0 (by decide), bit30 _⟩
theorem add (m : AddrSpec) (f : Nat) : Statement (.add m f) := ⟨rowC m f 1 (by decide), bit30 _⟩
theorem sub (m : AddrSpec) (f : Nat) : Statement (.sub m f) := ⟨rowC m f 2 (by decide), bit30 _⟩
theorem mul (m : AddrSpec) (f : Nat) : Statement (.mul m f) := ⟨rowC m f 3 (by decide), bit30 _⟩
theorem div (m : AddrSpec) (f : Nat) : Statement (.div m f) := ⟨rowC m f 4 (by decide), bit30 _⟩
theorem num (m : AddrSpec) : Statement (.num m) := ⟨rowCF m 0 5 (by decide) (by decide), bit30 _⟩
theorem char (m : AddrSpec) : Statement (.char m) := ⟨rowCF m 1 5 (by decide) (by decide), bit30 _⟩
theorem hlt (m : AddrSpec) : Statement (.hlt m) := ⟨rowCF m 2 5 (by decide) (by decide), bit30 _⟩
theorem sla (m : AddrSpec) : Statement (.sla m) := ⟨rowCF m 0 6 (by decide) (by decide), bit30 _⟩
theorem sra (m : AddrSpec) : Statement (.sra m) := ⟨rowCF m 1 6 (by decide) (by decide), bit30 _⟩
theorem slax (m : AddrSpec) : Statement (.slax m) := ⟨rowCF m 2 6 (by decide) (by decide), bit30 _⟩
theorem srax (m : AddrSpec) : Statement (.srax m) := ⟨rowCF m 3 6 (by decide) (by decide), bit30 _⟩
theorem slc (m : AddrSpec) : Statement (.slc m) := ⟨rowCF m 4 6 (by decide) (by decide), bit30 _⟩
theorem src (m : AddrSpec) : Statement (.src m) := ⟨rowCF m 5 6 (by decide) (by decide), bit30 _⟩
theorem move (m : AddrSpec) (f : Nat) : Statement (.move m f) := ⟨rowC m f 7 (by decide), bit30 _⟩
theorem lda (m : AddrSpec) (f : Nat) : Statement (.lda m f) := ⟨rowC m f 8 (by decide), bit30 _⟩
theorem ld1 (m : AddrSpec) (f : Nat) : Statement (.ld1 m f) := ⟨rowC m f 9 (by decide), bit30 _⟩
theorem ld2 (m : AddrSpec) (f : Nat) : Statement (.ld2 m f) := ⟨rowC m f 10 (by decide), bit30 _⟩
theorem ld3 (m : AddrSpec) (f : Nat) : Statement (.ld3 m f) := ⟨rowC m f 11 (by decide), bit30 _⟩
theorem ld4 (m : AddrSpec) (f : Nat) : Statement (.ld4 m f) := ⟨rowC m f 12 (by decide), bit30 _⟩
theorem ld5 (m : AddrSpec) (f : Nat) : Statement (.ld5 m f) := ⟨rowC m f 13 (by decide), bit30 _⟩
theorem ld6 (m : AddrSpec) (f : Nat) : Statement (.ld6 m f) := ⟨rowC m f 14 (by decide), bit30 _⟩
theorem ldx (m : AddrSpec) (f : Nat) : Statement (.ldx m f) := ⟨rowC m f 15 (by decide), bit30 _⟩
theorem ldan (m : AddrSpec) (f : Nat) : Statement (.ldan m f) := ⟨rowC m f 16 (by decide), bit30 _⟩
theorem ld1n (m : AddrSpec) (f : Nat) : Statement (.ld1n m f) := ⟨rowC m f 17 (by decide), bit30 _⟩
theorem ld2n (m : AddrSpec) (f : Nat) : Statement (.ld2n m f) := ⟨rowC m f 18 (by decide), bit30 _⟩
theorem ld3n (m : AddrSpec) (f : Nat) : Statement (.ld3n m f) := ⟨rowC m f 19 (by decide), bit30 _⟩
theorem ld4n (m : AddrSpec) (f : Nat) : Statement (.ld4n m f) := ⟨rowC m f 20 (by decide), bit30 _⟩
theorem ld5n (m : AddrSpec) (f : Nat) : Statement (.ld5n m f) := ⟨rowC m f 21 (by decide), bit30 _⟩
theorem ld6n (m : AddrSpec) (f : Nat) : Statement (.ld6n m f) := ⟨rowC m f 22 (by decide), bit30 _⟩
theorem ldxn (m : AddrSpec) (f : Nat) : Statement (.ldxn m f) := ⟨rowC m f 23 (by decide), bit30 _⟩
theorem sta (m : AddrSpec) (f : Nat) : Statement (.sta m f) := ⟨rowC m f 24 (by decide), bit30 _⟩
theorem st1 (m : AddrSpec) (f : Nat) : Statement (.st1 m f) := ⟨rowC m f 25 (by decide), bit30 _⟩
theorem st2 (m : AddrSpec) (f : Nat) : Statement (.st2 m f) := ⟨rowC m f 26 (by decide), bit30 _⟩
theorem st3 (m : AddrSpec) (f : Nat) : Statement (.st3 m f) := ⟨rowC m f 27 (by decide), bit30 _⟩
theorem st4 (m : AddrSpec) (f : Nat) : Statement (.st4 m f) := ⟨rowC m f 28 (by decide), bit30 _⟩
theorem st5 (m : AddrSpec) (f : Nat) : Statement (.st5 m f) := ⟨rowC m f 29 (by decide), bit30 _⟩
theorem st6 (m : AddrSpec) (f : Nat) : Statement (.st6 m f) := ⟨rowC m f 30 (by decide), bit30 _⟩
theorem stx (m : AddrSpec) (f : Nat) : Statement (.stx m f) := ⟨rowC m f 31 (by decide), bit30 _⟩
theorem stj (m : AddrSpec) (f : Nat) : Statement (.stj m f) := ⟨rowC m f 32 (by decide), bit30 _⟩
theorem stz (m : AddrSpec) (f : Nat) : Statement (.stz m f) := ⟨rowC m f 33 (by decide), bit30 _⟩
theorem jbus (m : AddrSpec) (f : Nat) : Statement (.jbus m f) := ⟨rowC m f 34 (by decide), bit30 _⟩
theorem ioc (m : AddrSpec) (f : Nat) : Statement (.ioc m f) := ⟨rowC m f 35 (by decide), bit30 _⟩
theorem inp (m : AddrSpec) (f : Nat) : Statement (.inp m f) := ⟨rowC m f 36 (by decide), bit30 _⟩
theorem out (m : AddrSpec) (f : Nat) : Statement (.out m f) := ⟨rowC m f 37 (by decide), bit30 _⟩
theorem jred (m : AddrSpec) (f : Nat) : Statement (.jred m f) := ⟨rowC m f 38 (by decide), bit30 _⟩
theorem jmp (m : AddrSpec) : Statement (.jmp m) := ⟨rowCF m 0 39 (by decide) (by decide), bit30 _⟩
theorem jsj (m : AddrSpec) : Statement (.jsj m) := ⟨rowCF m 1 39 (by decide) (by decide), bit30 _⟩
theorem jov (m : AddrSpec) : Statement (.jov m) := ⟨rowCF m 2 39 (by decide) (by decide), bit30 _⟩
theorem jnov (m : AddrSpec) : Statement (.jnov m) := ⟨rowCF m 3 39 (by decide) (by decide), bit30 _⟩
theorem jl (m : AddrSpec) : Statement (.jl m) := ⟨rowCF m 4 39 (by decide) (by decide), bit30 _⟩
theorem je (m : AddrSpec) : Statement (.je m) := ⟨rowCF m 5 39 (by decide) (by decide), bit30 _⟩
theorem jg (m : AddrSpec) : Statement (.jg m) := ⟨rowCF m 6 39 (by decide) (by decide), bit30 _⟩
theorem jge (m : AddrSpec) : Statement (.jge m) := ⟨rowCF m 7 39 (by decide) (by decide), bit30 _⟩
theorem jne (m : AddrSpec) : Statement (.jne m) := ⟨rowCF m 8 39 (by decide) (by decide), bit30 _⟩
theorem jle (m : AddrSpec) : Statement (.jle m) := ⟨rowCF m 9 39 (by decide) (by decide), bit30 _⟩
theorem jan (m : AddrSpec) : Statement (.jan m) := ⟨rowCF m 0 40 (by decide) (by decide), bit30 _⟩
theorem jaz (m : AddrSpec) : Statement (.jaz m) := ⟨rowCF m 1 40 (by decide) (by decide), bit30 _⟩
theorem jap (m : AddrSpec) : Statement (.jap m) := ⟨rowCF m 2 40 (by decide) (by decide), bit30 _⟩
theorem jann (m : AddrSpec) : Statement (.jann m) := ⟨rowCF m 3 40 (by decide) (by decide), bit30 _⟩
theorem janz (m : AddrSpec) : Statement (.janz m) := ⟨rowCF m 4 40 (by decide) (by decide), bit30 _⟩
theorem janp (m : AddrSpec) : Statement (.janp m) := ⟨rowCF m 5 40 (by decide) (by decide), bit30 _⟩
theorem j1n (m : AddrSpec) : Statement (.j1n m) := ⟨rowCF m 0 41 (by decide) (by decide), bit30 _⟩
theorem j1z (m : AddrSpec) : Statement (.j1z m) := ⟨rowCF m 1 41 (by decide) (by decide), bit30 _⟩
theorem j1p (m : AddrSpec) : Statement (.j1p m) := ⟨rowCF m 2 41 (by decide) (by decide), bit30 _⟩
theorem j1nn (m : AddrSpec) : Statement (.j1nn m) := ⟨rowCF m 3 41 (by decide) (by decide), bit30 _⟩
theorem j1nz (m : AddrSpec) : Statement (.j1nz m) := ⟨rowCF m 4 41 (by decide) (by decide), bit30 _⟩
theorem j1np (m : AddrSpec) : Statement (.j1np m) := ⟨rowCF m 5 41 (by decide) (by decide), bit30 _⟩
theorem j2n (m : AddrSpec) : Statement (.j2n m) := ⟨rowCF m 0 42 (by decide) (by decide), bit30 _⟩
theorem j2z (m : AddrSpec) : Statement (.j2z m) := ⟨rowCF m 1 42 (by decide) (by decide), bit30 _⟩
theorem j2p (m : AddrSpec) : Statement (.j2p m) := ⟨rowCF m 2 42 (by decide) (by decide), bit30 _⟩
theorem j2nn (m : AddrSpec) : Statement (.j2nn m) := ⟨rowCF m 3 42 (by decide) (by decide), bit30 _⟩
theorem j2nz (m : AddrSpec) : Statement (.j2nz m) := ⟨rowCF m 4 42 (by decide) (by decide), bit30 _⟩
theorem j2np (m : AddrSpec) : Statement (.j2np m) := ⟨rowCF m 5 42 (by decide) (by decide), bit30 _⟩
theorem j3n (m : AddrSpec) : Statement (.j3n m) := ⟨rowCF m 0 43 (by decide) (by decide), bit30 _⟩
theorem j3z (m : AddrSpec) : Statement (.j3z m) := ⟨rowCF m 1 43 (by decide) (by decide), bit30 _⟩
theorem j3p (m : AddrSpec) : Statement (.j3p m) := ⟨rowCF m 2 43 (by decide) (by decide), bit30 _⟩
theorem j3nn (m : AddrSpec) : Statement (.j3nn m) := ⟨rowCF m 3 43 (by decide) (by decide), bit30 _⟩
theorem j3nz (m : AddrSpec) : Statement (.j3nz m) := ⟨rowCF m 4 43 (by decide) (by decide), bit30 _⟩
theorem j3np (m : AddrSpec) : Statement (.j3np m) := ⟨rowCF m 5 43 (by decide) (by decide), bit30 _⟩
theorem j4n (m : AddrSpec) : Statement (.j4n m) := ⟨rowCF m 0 44 (by decide) (by decide), bit30 _⟩
theorem j4z (m : AddrSpec) : Statement (.j4z m) := ⟨rowCF m 1 44 (by decide) (by decide), bit30 _⟩
theorem j4p (m : AddrSpec) : Statement (.j4p m) := ⟨rowCF m 2 44 (by decide) (by decide), bit30 _⟩
theorem j4nn (m : AddrSpec) : Statement (.j4nn m) := ⟨rowCF m 3 44 (by decide) (by decide), bit30 _⟩
theorem j4nz (m : AddrSpec) : Statement (.j4nz m) := ⟨rowCF m 4 44 (by decide) (by decide), bit30 _⟩
theorem j4np (m : AddrSpec) : Statement (.j4np m) := ⟨rowCF m 5 44 (by decide) (by decide), bit30 _⟩
theorem j5n (m : AddrSpec) : Statement (.j5n m) := ⟨rowCF m 0 45 (by decide) (by decide), bit30 _⟩
theorem j5z (m : AddrSpec) : Statement (.j5z m) := ⟨rowCF m 1 45 (by decide) (by decide), bit30 _⟩
theorem j5p (m : AddrSpec) : Statement (.j5p m) := ⟨rowCF m 2 45 (by decide) (by decide), bit30 _⟩
theorem j5nn (m : AddrSpec) : Statement (.j5nn m) := ⟨rowCF m 3 45 (by decide) (by decide), bit30 _⟩
theorem j5nz (m : AddrSpec) : Statement (.j5nz m) := ⟨rowCF m 4 45 (by decide) (by decide), bit30 _⟩
theorem j5np (m : AddrSpec) : Statement (.j5np m) := ⟨rowCF m 5 45 (by decide) (by decide), bit30 _⟩
theorem j6n (m : AddrSpec) : Statement (.j6n m) := ⟨rowCF m 0 46 (by decide) (by decide), bit30 _⟩
theorem j6z (m : AddrSpec) : Statement (.j6z m) := ⟨rowCF m 1 46 (by decide) (by decide), bit30 _⟩
theorem j6p (m : AddrSpec) : Statement (.j6p m) := ⟨rowCF m 2 46 (by decide) (by decide), bit30 _⟩
theorem j6nn (m : AddrSpec) : Statement (.j6nn m) := ⟨rowCF m 3 46 (by decide) (by decide), bit30 _⟩
theorem j6nz (m : AddrSpec) : Statement (.j6nz m) := ⟨rowCF m 4 46 (by decide) (by decide), bit30 _⟩
theorem j6np (m : AddrSpec) : Statement (.j6np m) := ⟨rowCF m 5 46 (by decide) (by decide), bit30 _⟩
theorem jxn (m : AddrSpec) : Statement (.jxn m) := ⟨rowCF m 0 47 (by decide) (by decide), bit30 _⟩
theorem jxz (m : AddrSpec) : Statement (.jxz m) := ⟨rowCF m 1 47 (by decide) (by decide), bit30 _⟩
theorem jxp (m : AddrSpec) : Statement (.jxp m) := ⟨rowCF m 2 47 (by decide) (by decide), bit30 _⟩
theorem jxnn (m : AddrSpec) : Statement (.jxnn m) := ⟨rowCF m 3 47 (by decide) (by decide), bit30 _⟩
theorem jxnz (m : AddrSpec) : Statement (.jxnz m) := ⟨rowCF m 4 47 (by decide) (by decide), bit30 _⟩
theorem jxnp (m : AddrSpec) : Statement (.jxnp m) := ⟨rowCF m 5 47 (by decide) (by decide), bit30 _⟩
theorem inca (m : AddrSpec) : Statement (.inca m) := ⟨rowCF m 0 48 (by decide) (by decide), bit30 _⟩
theorem deca (m : AddrSpec) : Statement (.deca m) := ⟨rowCF m 1 48 (by decide) (by decide), bit30 _⟩
theorem enta (m : AddrSpec) : Statement (.enta m) := ⟨rowCF m 2 48 (by decide) (by decide), bit30 _⟩
theorem enna (m : AddrSpec) : Statement (.enna m) := ⟨rowCF m 3 48 (by decide) (by decide), bit30 _⟩
theorem inc1 (m : AddrSpec) : Statement (.inc1 m) := ⟨rowCF m 0 49 (by decide) (by decide), bit30 _⟩
theorem dec1 (m : AddrSpec) : Statement (.dec1 m) := ⟨rowCF m 1 49 (by decide) (by decide), bit30 _⟩
theorem ent1 (m : AddrSpec) : Statement (.ent1 m) := ⟨rowCF m 2 49 (by decide) (by decide), bit30 _⟩
theorem enn1 (m : AddrSpec) : Statement (.enn1 m) := ⟨rowCF m 3 49 (by decide) (by decide), bit30 _⟩
theorem inc2 (m : AddrSpec) : Statement (.inc2 m) := ⟨rowCF m 0 50 (by decide) (by decide), bit30 _⟩
theorem dec2 (m : AddrSpec) : Statement (.dec2 m) := ⟨rowCF m 1 50 (by decide) (by decide), bit30 _⟩
theorem ent2 (m : AddrSpec) : Statement (.ent2 m) := ⟨rowCF m 2 50 (by decide) (by decide), bit30 _⟩
theorem enn2 (m : AddrSpec) : Statement (.enn2 m) := ⟨rowCF m 3 50 (by decide) (by decide), bit30 _⟩
theorem inc3 (m : AddrSpec) : Statement (.inc3 m) := ⟨rowCF m 0 51 (by decide) (by decide), bit30 _⟩
theorem dec3 (m : AddrSpec) : Statement (.dec3 m) := ⟨rowCF m 1 51 (by decide) (by decide), bit30 _⟩
theorem ent3 (m : AddrSpec) : Statement (.ent3 m) := ⟨rowCF m 2 51 (by decide) (by decide), bit30 _⟩
theorem enn3 (m : AddrSpec) : Statement (.enn3 m) := ⟨rowCF m 3 51 (by decide) (by decide), bit30 _⟩
theorem inc4 (m : AddrSpec) : Statement (.inc4 m) := ⟨rowCF m 0 52 (by decide) (by decide), bit30 _⟩
theorem dec4 (m : AddrSpec) : Statement (.dec4 m) := ⟨rowCF m 1 52 (by decide) (by decide), bit30 _⟩
theorem ent4 (m : AddrSpec) : Statement (.ent4 m) := ⟨rowCF m 2 52 (by decide) (by decide), bit30 _⟩
theorem enn4 (m : AddrSpec) : Statement (.enn4 m) := ⟨rowCF m 3 52 (by decide) (by decide), bit30 _⟩
theorem inc5 (m : AddrSpec) : Statement (.inc5 m) := ⟨rowCF m 0 53 (by decide) (by decide), bit30 _⟩
theorem dec5 (m : AddrSpec) : Statement (.dec5 m) := ⟨rowCF m 1 53 (by decide) (by decide), bit30 _⟩
theorem ent5 (m : AddrSpec) : Statement (.ent5 m) := ⟨rowCF m 2 53 (by decide) (by decide), bit30 _⟩
theorem enn5 (m : AddrSpec) : Statement (.enn5 m) := ⟨rowCF m 3 53 (by decide) (by decide), bit30 _⟩
theorem inc6 (m : AddrSpec) : Statement (.inc6 m) := ⟨rowCF m 0 54 (by decide) (by decide), bit30 _⟩
theorem dec6 (m : AddrSpec) : Statement (.dec6 m) := ⟨rowCF m 1 54 (by decide) (by decide), bit30 _⟩
theorem ent6 (m : AddrSpec) : Statement (.ent6 m) := ⟨rowCF m 2 54 (by decide) (by decide), bit30 _⟩
theorem enn6 (m : AddrSpec) : Statement (.enn6 m) := ⟨rowCF m 3 54 (by decide) (by decide), bit30 _⟩
theorem incx (m : AddrSpec) : Statement (.incx m) := ⟨rowCF m 0 55 (by decide) (by decide), bit30 _⟩
theorem decx (m : AddrSpec) : Statement (.decx m) := ⟨rowCF m 1 55 (by decide) (by decide), bit30 _⟩
theorem entx (m : AddrSpec) : Statement (.entx m) := ⟨rowCF m 2 55 (by decide) (by decide), bit30 _⟩
theorem ennx (m : AddrSpec) : Statement (.ennx m) := ⟨rowCF m 3 55 (by decide) (by decide), bit30 _⟩
theorem cmpa (m : AddrSpec) (f : Nat) : Statement (.cmpa m f) := ⟨rowC m f 56 (by decide), bit30 _⟩
theorem cmp1 (m : AddrSpec) (f : Nat) : Statement (.cmp1 m f) := ⟨rowC m f 57 (by decide), bit30 _⟩
theorem cmp2 (m : AddrSpec) (f : Nat) : Statement (.cmp2 m f) := ⟨rowC m f 58 (by decide), bit30 _⟩
theorem cmp3 (m : AddrSpec) (f : Nat) : Statement (.cmp3 m f) := ⟨rowC m f 59 (by decide), bit30 _⟩
theorem cmp4 (m : AddrSpec) (f : Nat) : Statement (.cmp4 m f) := ⟨rowC m f 60 (by decide), bit30 _⟩
theorem cmp5 (m : AddrSpec) (f : Nat) : Statement (.cmp5 m f) := ⟨rowC m f 61 (by decide), bit30 _⟩
theorem cmp6 (m : AddrSpec) (f : Nat) : Statement (.cmp6 m f) := ⟨rowC m f 62 (by decide), bit30 _⟩
theorem cmpx (m : AddrSpec) (f : Nat) : Statement (.cmpx m f) := ⟨rowC m f 63 (by decide), bit30 _⟩

end Sys2Proof.Laws.EncodingRow
end

