-- ==== Sys2Proof/Tests/Slice0.lean ====
section
/-! SUPPORT. The model's own tests. Expected results are from the spec: the words of 30_encoding.md R90 and R100,
  and the
vectors of 95_test_vectors.md (the section is named at each heading). The witnesses show that the hypotheses of each
statement can be met. -/

namespace Sys2Proof.Tests

open Sys2Proof.Machine

/-! ## Helpers -/

/-- The word with a sign and five bytes, as the spec writes words (R8). -/
def w (neg : Bool) (b1 b2 b3 b4 b5 : Nat) : Word := word neg (ofBytes [b1, b2, b3, b4, b5])

/-- The start state of the vectors: reset, RUNNING, during the execution of the instruction at address 10. -/
def start : State := { State.reset with rs := .running, pc := 11, ppc := 10 }

/-- The same with one word of memory. -/
def withCell (a : Addr) (x : Word) : State := start.writeMem a x

/-- The state after the instruction whose container is `c`. -/
def run (c : Nat) (s : State) : Option State :=
  match decodeTableWord 32 c with
  | some i =>
    match exec i s with
    | .next t => some t
    | .fault _ => none
    | .refused _ => none
  | none => none

/-- What a reader of the state sees after the instruction. -/
def sees {α : Type} (c : Nat) (s : State) (look : State → α) : Option α := (run c s).map look

/-- The next state of an outcome. -/
def after (r : Host.Outcome State Fault Refusal) : Option State :=
  match r with
  | .next t => some t
  | .fault _ => none
  | .refused _ => none

/-- RUNNING at address 10 with the container `c` there. -/
def at10 (c : Nat) : State :=
  { State.reset with rs := .running, pc := 10, mem := Memory.write [] 10 (tableWord 32 c) }

/-! ## WellFormed refuses a field that does not fit -/

theorem test_wellFormed_accepts_the_largest_fields : WellFormed (.lda ⟨true, 4095, 63⟩ 63) := by decide
theorem test_wellFormed_refuses_an_address_of_13_bits : ¬ WellFormed (.lda ⟨false, 4096, 0⟩ 5) := by decide
theorem test_wellFormed_refuses_an_index_of_7_bits : ¬ WellFormed (.jmp ⟨false, 0, 64⟩) := by decide
theorem test_wellFormed_refuses_a_modifier_of_7_bits : ¬ WellFormed (.add ⟨false, 0, 0⟩ 64) := by decide

/-! ## Decoding: one word per instruction, written out as S*2^31 + AA*2^18 + I*2^12 + F*2^6 + C (R90, R100) -/

theorem test_decode_group_0_to_7 :
    decodeTableWord 32 0x01900000 = some (.nop ⟨false, 100, 0⟩ 0) ∧
    decodeTableWord 32 0x822412C1 = some (.add ⟨true, 137, 1⟩ 11) ∧
    decodeTableWord 32 0x02B82582 = some (.sub ⟨false, 174, 2⟩ 22) ∧
    decodeTableWord 32 0x834C3843 = some (.mul ⟨true, 211, 3⟩ 33) ∧
    decodeTableWord 32 0x03E04B04 = some (.div ⟨false, 248, 4⟩ 44) ∧
    decodeTableWord 32 0x84745005 = some (.num ⟨true, 285, 5⟩) ∧
    decodeTableWord 32 0x05086045 = some (.char ⟨false, 322, 6⟩) ∧
    decodeTableWord 32 0x859C0085 = some (.hlt ⟨true, 359, 0⟩) ∧
    decodeTableWord 32 0x06301006 = some (.sla ⟨false, 396, 1⟩) ∧
    decodeTableWord 32 0x86C42046 = some (.sra ⟨true, 433, 2⟩) ∧
    decodeTableWord 32 0x07583086 = some (.slax ⟨false, 470, 3⟩) ∧
    decodeTableWord 32 0x87EC40C6 = some (.srax ⟨true, 507, 4⟩) ∧
    decodeTableWord 32 0x08805106 = some (.slc ⟨false, 544, 5⟩) ∧
    decodeTableWord 32 0x89146146 = some (.src ⟨true, 581, 6⟩) ∧
    decodeTableWord 32 0x09A80687 = some (.move ⟨false, 618, 0⟩ 26) := by decide

theorem test_decode_loads :
    decodeTableWord 32 0x8A3C1948 = some (.lda ⟨true, 655, 1⟩ 37) ∧
    decodeTableWord 32 0x0AD02C09 = some (.ld1 ⟨false, 692, 2⟩ 48) ∧
    decodeTableWord 32 0x8B643ECA = some (.ld2 ⟨true, 729, 3⟩ 59) ∧
    decodeTableWord 32 0x0BF8418B = some (.ld3 ⟨false, 766, 4⟩ 6) ∧
    decodeTableWord 32 0x8C8C544C = some (.ld4 ⟨true, 803, 5⟩ 17) ∧
    decodeTableWord 32 0x0D20670D = some (.ld5 ⟨false, 840, 6⟩ 28) ∧
    decodeTableWord 32 0x8DB409CE = some (.ld6 ⟨true, 877, 0⟩ 39) ∧
    decodeTableWord 32 0x0E481C8F = some (.ldx ⟨false, 914, 1⟩ 50) := by decide

theorem test_decode_negative_loads :
    decodeTableWord 32 0x8EDC2F50 = some (.ldan ⟨true, 951, 2⟩ 61) ∧
    decodeTableWord 32 0x0F703211 = some (.ld1n ⟨false, 988, 3⟩ 8) ∧
    decodeTableWord 32 0x900444D2 = some (.ld2n ⟨true, 1025, 4⟩ 19) ∧
    decodeTableWord 32 0x10985793 = some (.ld3n ⟨false, 1062, 5⟩ 30) ∧
    decodeTableWord 32 0x912C6A54 = some (.ld4n ⟨true, 1099, 6⟩ 41) ∧
    decodeTableWord 32 0x11C00D15 = some (.ld5n ⟨false, 1136, 0⟩ 52) ∧
    decodeTableWord 32 0x92541FD6 = some (.ld6n ⟨true, 1173, 1⟩ 63) ∧
    decodeTableWord 32 0x12E82297 = some (.ldxn ⟨false, 1210, 2⟩ 10) := by decide

theorem test_decode_stores :
    decodeTableWord 32 0x937C3558 = some (.sta ⟨true, 1247, 3⟩ 21) ∧
    decodeTableWord 32 0x14104819 = some (.st1 ⟨false, 1284, 4⟩ 32) ∧
    decodeTableWord 32 0x94A45ADA = some (.st2 ⟨true, 1321, 5⟩ 43) ∧
    decodeTableWord 32 0x15386D9B = some (.st3 ⟨false, 1358, 6⟩ 54) ∧
    decodeTableWord 32 0x95CC005C = some (.st4 ⟨true, 1395, 0⟩ 1) ∧
    decodeTableWord 32 0x1660131D = some (.st5 ⟨false, 1432, 1⟩ 12) ∧
    decodeTableWord 32 0x96F425DE = some (.st6 ⟨true, 1469, 2⟩ 23) ∧
    decodeTableWord 32 0x1788389F = some (.stx ⟨false, 1506, 3⟩ 34) ∧
    decodeTableWord 32 0x981C4B60 = some (.stj ⟨true, 1543, 4⟩ 45) ∧
    decodeTableWord 32 0x18B05E21 = some (.stz ⟨false, 1580, 5⟩ 56) := by decide

theorem test_decode_io :
    decodeTableWord 32 0x994460E2 = some (.jbus ⟨true, 1617, 6⟩ 3) ∧
    decodeTableWord 32 0x19D803A3 = some (.ioc ⟨false, 1654, 0⟩ 14) ∧
    decodeTableWord 32 0x9A6C1664 = some (.inp ⟨true, 1691, 1⟩ 25) ∧
    decodeTableWord 32 0x1B002925 = some (.out ⟨false, 1728, 2⟩ 36) ∧
    decodeTableWord 32 0x9B943BE6 = some (.jred ⟨true, 1765, 3⟩ 47) := by decide

theorem test_decode_jumps :
    decodeTableWord 32 0x1C284027 = some (.jmp ⟨false, 1802, 4⟩) ∧
    decodeTableWord 32 0x9CBC5067 = some (.jsj ⟨true, 1839, 5⟩) ∧
    decodeTableWord 32 0x1D5060A7 = some (.jov ⟨false, 1876, 6⟩) ∧
    decodeTableWord 32 0x9DE400E7 = some (.jnov ⟨true, 1913, 0⟩) ∧
    decodeTableWord 32 0x1E781127 = some (.jl ⟨false, 1950, 1⟩) ∧
    decodeTableWord 32 0x9F0C2167 = some (.je ⟨true, 1987, 2⟩) ∧
    decodeTableWord 32 0x1FA031A7 = some (.jg ⟨false, 2024, 3⟩) ∧
    decodeTableWord 32 0xA03441E7 = some (.jge ⟨true, 2061, 4⟩) ∧
    decodeTableWord 32 0x20C85227 = some (.jne ⟨false, 2098, 5⟩) ∧
    decodeTableWord 32 0xA15C6267 = some (.jle ⟨true, 2135, 6⟩) := by decide

theorem test_decode_jumps_on_A :
    decodeTableWord 32 0x21F00028 = some (.jan ⟨false, 2172, 0⟩) ∧
    decodeTableWord 32 0xA2841068 = some (.jaz ⟨true, 2209, 1⟩) ∧
    decodeTableWord 32 0x231820A8 = some (.jap ⟨false, 2246, 2⟩) ∧
    decodeTableWord 32 0xA3AC30E8 = some (.jann ⟨true, 2283, 3⟩) ∧
    decodeTableWord 32 0x24404128 = some (.janz ⟨false, 2320, 4⟩) ∧
    decodeTableWord 32 0xA4D45168 = some (.janp ⟨true, 2357, 5⟩) := by decide

theorem test_decode_jumps_on_1 :
    decodeTableWord 32 0x25686029 = some (.j1n ⟨false, 2394, 6⟩) ∧
    decodeTableWord 32 0xA5FC0069 = some (.j1z ⟨true, 2431, 0⟩) ∧
    decodeTableWord 32 0x269010A9 = some (.j1p ⟨false, 2468, 1⟩) ∧
    decodeTableWord 32 0xA72420E9 = some (.j1nn ⟨true, 2505, 2⟩) ∧
    decodeTableWord 32 0x27B83129 = some (.j1nz ⟨false, 2542, 3⟩) ∧
    decodeTableWord 32 0xA84C4169 = some (.j1np ⟨true, 2579, 4⟩) := by decide

theorem test_decode_jumps_on_2 :
    decodeTableWord 32 0x28E0502A = some (.j2n ⟨false, 2616, 5⟩) ∧
    decodeTableWord 32 0xA974606A = some (.j2z ⟨true, 2653, 6⟩) ∧
    decodeTableWord 32 0x2A0800AA = some (.j2p ⟨false, 2690, 0⟩) ∧
    decodeTableWord 32 0xAA9C10EA = some (.j2nn ⟨true, 2727, 1⟩) ∧
    decodeTableWord 32 0x2B30212A = some (.j2nz ⟨false, 2764, 2⟩) ∧
    decodeTableWord 32 0xABC4316A = some (.j2np ⟨true, 2801, 3⟩) := by decide

theorem test_decode_jumps_on_3 :
    decodeTableWord 32 0x2C58402B = some (.j3n ⟨false, 2838, 4⟩) ∧
    decodeTableWord 32 0xACEC506B = some (.j3z ⟨true, 2875, 5⟩) ∧
    decodeTableWord 32 0x2D8060AB = some (.j3p ⟨false, 2912, 6⟩) ∧
    decodeTableWord 32 0xAE1400EB = some (.j3nn ⟨true, 2949, 0⟩) ∧
    decodeTableWord 32 0x2EA8112B = some (.j3nz ⟨false, 2986, 1⟩) ∧
    decodeTableWord 32 0xAF3C216B = some (.j3np ⟨true, 3023, 2⟩) := by decide

theorem test_decode_jumps_on_4 :
    decodeTableWord 32 0x2FD0302C = some (.j4n ⟨false, 3060, 3⟩) ∧
    decodeTableWord 32 0xB064406C = some (.j4z ⟨true, 3097, 4⟩) ∧
    decodeTableWord 32 0x30F850AC = some (.j4p ⟨false, 3134, 5⟩) ∧
    decodeTableWord 32 0xB18C60EC = some (.j4nn ⟨true, 3171, 6⟩) ∧
    decodeTableWord 32 0x3220012C = some (.j4nz ⟨false, 3208, 0⟩) ∧
    decodeTableWord 32 0xB2B4116C = some (.j4np ⟨true, 3245, 1⟩) := by decide

theorem test_decode_jumps_on_5 :
    decodeTableWord 32 0x3348202D = some (.j5n ⟨false, 3282, 2⟩) ∧
    decodeTableWord 32 0xB3DC306D = some (.j5z ⟨true, 3319, 3⟩) ∧
    decodeTableWord 32 0x347040AD = some (.j5p ⟨false, 3356, 4⟩) ∧
    decodeTableWord 32 0xB50450ED = some (.j5nn ⟨true, 3393, 5⟩) ∧
    decodeTableWord 32 0x3598612D = some (.j5nz ⟨false, 3430, 6⟩) ∧
    decodeTableWord 32 0xB62C016D = some (.j5np ⟨true, 3467, 0⟩) := by decide

theorem test_decode_jumps_on_6 :
    decodeTableWord 32 0x36C0102E = some (.j6n ⟨false, 3504, 1⟩) ∧
    decodeTableWord 32 0xB754206E = some (.j6z ⟨true, 3541, 2⟩) ∧
    decodeTableWord 32 0x37E830AE = some (.j6p ⟨false, 3578, 3⟩) ∧
    decodeTableWord 32 0xB87C40EE = some (.j6nn ⟨true, 3615, 4⟩) ∧
    decodeTableWord 32 0x3910512E = some (.j6nz ⟨false, 3652, 5⟩) ∧
    decodeTableWord 32 0xB9A4616E = some (.j6np ⟨true, 3689, 6⟩) := by decide

theorem test_decode_jumps_on_X :
    decodeTableWord 32 0x3A38002F = some (.jxn ⟨false, 3726, 0⟩) ∧
    decodeTableWord 32 0xBACC106F = some (.jxz ⟨true, 3763, 1⟩) ∧
    decodeTableWord 32 0x3B6020AF = some (.jxp ⟨false, 3800, 2⟩) ∧
    decodeTableWord 32 0xBBF430EF = some (.jxnn ⟨true, 3837, 3⟩) ∧
    decodeTableWord 32 0x3C88412F = some (.jxnz ⟨false, 3874, 4⟩) ∧
    decodeTableWord 32 0xBD1C516F = some (.jxnp ⟨true, 3911, 5⟩) := by decide

theorem test_decode_address_transfer_A :
    decodeTableWord 32 0x3DB06030 = some (.inca ⟨false, 3948, 6⟩) ∧
    decodeTableWord 32 0xBE440070 = some (.deca ⟨true, 3985, 0⟩) ∧
    decodeTableWord 32 0x3ED810B0 = some (.enta ⟨false, 4022, 1⟩) ∧
    decodeTableWord 32 0xBF6C20F0 = some (.enna ⟨true, 4059, 2⟩) := by decide

theorem test_decode_address_transfer_1 :
    decodeTableWord 32 0x00003031 = some (.inc1 ⟨false, 0, 3⟩) ∧
    decodeTableWord 32 0x80944071 = some (.dec1 ⟨true, 37, 4⟩) ∧
    decodeTableWord 32 0x012850B1 = some (.ent1 ⟨false, 74, 5⟩) ∧
    decodeTableWord 32 0x81BC60F1 = some (.enn1 ⟨true, 111, 6⟩) := by decide

theorem test_decode_address_transfer_2 :
    decodeTableWord 32 0x02500032 = some (.inc2 ⟨false, 148, 0⟩) ∧
    decodeTableWord 32 0x82E41072 = some (.dec2 ⟨true, 185, 1⟩) ∧
    decodeTableWord 32 0x037820B2 = some (.ent2 ⟨false, 222, 2⟩) ∧
    decodeTableWord 32 0x840C30F2 = some (.enn2 ⟨true, 259, 3⟩) := by decide

theorem test_decode_address_transfer_3 :
    decodeTableWord 32 0x04A04033 = some (.inc3 ⟨false, 296, 4⟩) ∧
    decodeTableWord 32 0x85345073 = some (.dec3 ⟨true, 333, 5⟩) ∧
    decodeTableWord 32 0x05C860B3 = some (.ent3 ⟨false, 370, 6⟩) ∧
    decodeTableWord 32 0x865C00F3 = some (.enn3 ⟨true, 407, 0⟩) := by decide

theorem test_decode_address_transfer_4 :
    decodeTableWord 32 0x06F01034 = some (.inc4 ⟨false, 444, 1⟩) ∧
    decodeTableWord 32 0x87842074 = some (.dec4 ⟨true, 481, 2⟩) ∧
    decodeTableWord 32 0x081830B4 = some (.ent4 ⟨false, 518, 3⟩) ∧
    decodeTableWord 32 0x88AC40F4 = some (.enn4 ⟨true, 555, 4⟩) := by decide

theorem test_decode_address_transfer_5 :
    decodeTableWord 32 0x09405035 = some (.inc5 ⟨false, 592, 5⟩) ∧
    decodeTableWord 32 0x89D46075 = some (.dec5 ⟨true, 629, 6⟩) ∧
    decodeTableWord 32 0x0A6800B5 = some (.ent5 ⟨false, 666, 0⟩) ∧
    decodeTableWord 32 0x8AFC10F5 = some (.enn5 ⟨true, 703, 1⟩) := by decide

theorem test_decode_address_transfer_6 :
    decodeTableWord 32 0x0B902036 = some (.inc6 ⟨false, 740, 2⟩) ∧
    decodeTableWord 32 0x8C243076 = some (.dec6 ⟨true, 777, 3⟩) ∧
    decodeTableWord 32 0x0CB840B6 = some (.ent6 ⟨false, 814, 4⟩) ∧
    decodeTableWord 32 0x8D4C50F6 = some (.enn6 ⟨true, 851, 5⟩) := by decide

theorem test_decode_address_transfer_X :
    decodeTableWord 32 0x0DE06037 = some (.incx ⟨false, 888, 6⟩) ∧
    decodeTableWord 32 0x8E740077 = some (.decx ⟨true, 925, 0⟩) ∧
    decodeTableWord 32 0x0F0810B7 = some (.entx ⟨false, 962, 1⟩) ∧
    decodeTableWord 32 0x8F9C20F7 = some (.ennx ⟨true, 999, 2⟩) := by decide

theorem test_decode_compares :
    decodeTableWord 32 0x10303638 = some (.cmpa ⟨false, 1036, 3⟩ 24) ∧
    decodeTableWord 32 0x90C448F9 = some (.cmp1 ⟨true, 1073, 4⟩ 35) ∧
    decodeTableWord 32 0x11585BBA = some (.cmp2 ⟨false, 1110, 5⟩ 46) ∧
    decodeTableWord 32 0x91EC6E7B = some (.cmp3 ⟨true, 1147, 6⟩ 57) ∧
    decodeTableWord 32 0x1280013C = some (.cmp4 ⟨false, 1184, 0⟩ 4) ∧
    decodeTableWord 32 0x931413FD = some (.cmp5 ⟨true, 1221, 1⟩ 15) ∧
    decodeTableWord 32 0x13A826BE = some (.cmp6 ⟨false, 1258, 2⟩ 26) ∧
    decodeTableWord 32 0x943C397F = some (.cmpx ⟨true, 1295, 3⟩ 37) := by decide

/-- R104: the first unsupported sub-operation of each group and the last supported one. -/
theorem test_decode_unsupported :
    (∀ c ∈ [0x000000C5, 0x00000186, 0x000002A7, 0x000001A8, 0x000001AF, 0x00000130, 0x00000137],
      decodeTableWord 32 c = none) ∧
    ∀ c ∈ [0x00000085, 0x00000146, 0x00000267, 0x00000168, 0x0000016F, 0x000000F0, 0x000000F7],
      (decodeTableWord 32 c).isSome = true := by decide

/-- R105: bit 30 of a container is ignored. -/
theorem test_decode_ignores_bit_30 : decodeTableWord 32 0x5F4020C8 = some (.lda ⟨false, 2000, 2⟩ 3) := by decide

/-! ## Address resolution (section 2.1) -/

/-- `LDA 100,1`, rI[1] = -30. -/
theorem test_address_indexed :
    sees 0x01901148 { start with
      regs := { RegFile.reset with rI1 := (w true 0 0 0 0 30) },
      mem := [(70, (w false 0 0 0 0 9))] }
      (fun t => (t.regs.rA, t.trace)) = some ((w false 0 0 0 0 9), []) := by decide

/-- `LDA -1`: W3, and the word at 3999. -/
theorem test_address_clamped_below_zero :
    sees 0x80040148 { start with mem := [(3999, (w true 0 0 0 0 8))] }
      (fun t => (t.regs.rA, t.trace)) = some ((w true 0 0 0 0 8), [.warning .w3]) := by decide

/-- `LDA 0,9`: W2, and rI[6]. -/
theorem test_address_index_above_6 :
    sees 0x00009148 { start with
      regs := { RegFile.reset with rI6 := (w false 0 0 0 0 20) },
      mem := [(20, (w false 0 0 0 0 4))] }
      (fun t => (t.regs.rA, t.trace)) = some ((w false 0 0 0 0 4), [.warning .w2]) := by decide

/-- `JMP 4000`: W3. -/
theorem test_address_jump_clamped :
    sees 0x3E800027 start
      (fun t => (t.pc.val, t.rJ, t.trace)) = some (3999, 11#12, [.warning .w3]) := by decide

/-! ## Loads and stores (section 2.2) -/

/-- The fields of one word. -/
theorem test_load_fields : ∀ p ∈ [
      (0x1F400148, (w true 1 16 3 5 4)),
      (0x1F400348, (w false 1 16 3 5 4)),
      (0x1F400748, (w false 0 0 3 5 4)),
      (0x1F4000C8, (w true 0 0 1 16 3)),
      (0x1F400908, (w false 0 0 0 0 5)),
      (0x1F400008, (w false 0 0 0 0 0)),
      (0x1F400150, (w false 1 16 3 5 4)),
      (0x1F400750, (w true 0 0 3 5 4))],
    sees p.1 (withCell 2000 (w true 1 16 3 5 4)) (fun t => t.regs.rA) = some p.2 := by decide

/-- `LD1 2000(0:3)`. -/
theorem test_load_LD1 :
    sees 0x1F4000C9 (withCell 2000 (w true 1 16 3 5 4))
      (fun t => t.regs.rI1) = some (w true 0 0 1 16 3) := by decide

/-- `LDXN 2000(0:3)`. -/
theorem test_load_LDXN :
    sees 0x1F4000D7 (withCell 2000 (w true 1 16 3 5 4))
      (fun t => t.regs.rX) = some (w false 0 0 1 16 3) := by decide

/-- `LDA 100(5:3)` executes as (0:5) with W1. -/
theorem test_load_malformed_field :
    sees 0x01900AC8 (withCell 100 (w true 1 2 3 4 5))
      (fun t => (t.regs.rA, t.trace)) = some ((w true 1 2 3 4 5), [.warning .w1]) := by decide

/-- `LD3N 505(0:0)` gives -0. -/
theorem test_load_LD3N_of_empty_field :
    sees 0x07E40013 start
      (fun t => t.regs.rI3) = some (w true 0 0 0 0 0) := by decide

/-- The fields a store replaces. -/
theorem test_store_fields : ∀ p ∈ [
      (0x1F400158, (w false 6 7 8 9 0)),
      (0x1F400358, (w true 6 7 8 9 0)),
      (0x1F400B58, (w true 1 2 3 4 0)),
      (0x1F400498, (w true 1 0 3 4 5)),
      (0x1F4004D8, (w true 1 9 0 4 5)),
      (0x1F400058, (w false 0 2 3 4 5)),
      (0x1F400018, (w false 1 2 3 4 5))],
    sees p.1 { start with
      regs := { RegFile.reset with rA := (w false 6 7 8 9 0) },
      mem := [(2000, (w true 1 2 3 4 5))] } (fun t => t.readMem 2000) = some p.2 := by decide

/-- `ST1 100(4:5)`. -/
theorem test_store_ST1 :
    sees 0x01900959 { start with
      regs := { RegFile.reset with rI1 := (w true 9 8 7 6 5) },
      mem := [(100, (w false 1 1 1 1 1))] }
      (fun t => t.readMem 100) = some (w false 1 1 1 6 5) := by decide

/-- `STX 100(3:3)`. -/
theorem test_store_STX :
    sees 0x019006DF { start with
      regs := { RegFile.reset with rX := (w true 9 8 7 6 5) },
      mem := [(100, (w false 1 1 1 1 1))] }
      (fun t => t.readMem 100) = some (w false 1 1 5 1 1) := by decide

/-- `STJ 100(0:2)`, rJ = 3000. -/
theorem test_store_STJ :
    sees 0x019000A0 { start with mem := [(100, (w true 1 2 3 4 5))], rJ := 3000#12 }
      (fun t => t.readMem 100) = some (w false 46 56 3 4 5) := by decide

/-- `STZ 100`: the word is +0, so it is no longer listed. -/
theorem test_store_STZ_removes_the_cell :
    sees 0x01900161 { start with mem := [(100, (w true 1 2 3 4 5))] }
      (fun t => t.mem) = some [] := by decide

/-- `STZ 100(4:5)`. -/
theorem test_store_STZ_field :
    sees 0x01900961 { start with mem := [(100, (w true 1 2 3 4 5))] }
      (fun t => t.readMem 100) = some (w true 1 2 3 0 0) := by decide

/-! ## Arithmetic (section 2.3) -/

/-- `ADD 1000`. -/
theorem test_ADD :
    sees 0x0FA00141 { start with
      regs := { RegFile.reset with rA := (w false 19 18 1 2 22) },
      mem := [(1000, (w false 1 36 5 0 50))] }
      (fun t => (t.regs.rA, t.ov)) = some ((w false 20 54 6 3 8), false) := by decide

/-- `ADD 100` of the two largest negative words. -/
theorem test_ADD_overflow :
    sees 0x01900141 { start with
      regs := { RegFile.reset with rA := (w true 63 63 63 63 63) },
      mem := [(100, (w true 63 63 63 63 63))] }
      (fun t => (t.regs.rA, t.ov)) = some ((w true 63 63 63 63 62), true) := by decide

/-- `SUB 1000`. -/
theorem test_SUB :
    sees 0x0FA00142 { start with
      regs := { RegFile.reset with rA := (w true 19 18 0 0 9) },
      mem := [(1000, (w true 31 16 2 22 0))] }
      (fun t => (t.regs.rA, t.ov)) = some ((w false 11 62 2 21 55), false) := by decide

/-- `SUB 100`: the true result is -2^30. -/
theorem test_SUB_to_minus_zero :
    sees 0x01900142 { start with
      regs := { RegFile.reset with rA := (w true 63 63 63 63 63) },
      mem := [(100, (w false 0 0 0 0 1))] }
      (fun t => (t.regs.rA, t.ov)) = some ((w true 0 0 0 0 0), true) := by decide

/-- `MUL 1000`. -/
theorem test_MUL :
    sees 0x0FA00143 { start with
      regs := { RegFile.reset with rA := (w true 50 0 1 48 4) },
      mem := [(1000, (w true 2 0 0 0 0))] }
      (fun t => (t.regs.rA, t.regs.rX, t.ov)) = some ((w false 1 36 0 3 32), (w false 8 0 0 0 0), false) := by decide

/-- `MUL 100`: a zero product is +0 in both halves. -/
theorem test_MUL_zero :
    sees 0x01900143 { start with
      regs := { RegFile.reset with rX := (w true 0 0 0 1 35) },
      mem := [(100, (w true 0 0 0 0 5))] }
      (fun t => (t.regs.rA, t.regs.rX, t.ov)) = some ((w false 0 0 0 0 0), (w false 0 0 0 0 0), false) := by decide

/-- `DIV 1000`. -/
theorem test_DIV :
    sees 0x0FA00144 { start with
      regs := { RegFile.reset with rA := (w true 0 0 0 0 0), rX := (w false 19 19 0 3 1) },
      mem := [(1000, (w true 0 0 0 2 0))] }
      (fun t => (t.regs.rA, t.regs.rX, t.ov)) = some ((w false 0 9 41 32 1), (w true 0 0 0 1 1), false) := by decide

/-- `DIV 100`, rA = +3, divisor +3: only OV is set. -/
theorem test_DIV_overflow :
    sees 0x01900144 { start with
      regs := { RegFile.reset with rA := (w false 0 0 0 0 3), rX := (w false 0 0 0 0 17) },
      mem := [(100, (w false 0 0 0 0 3))] }
      (fun t => (t.regs.rA, t.regs.rX, t.ov)) = some ((w false 0 0 0 0 3), (w false 0 0 0 0 17), true) := by decide

/-- `INC1 4095`. -/
theorem test_INC1_overflow :
    sees 0x3FFC0031 { start with regs := { RegFile.reset with rI1 := (w false 63 63 63 63 63) } }
      (fun t => (t.regs.rI1, t.ov)) = some ((w false 0 0 0 63 62), true) := by decide

/-- `DECA 7`. -/
theorem test_DECA :
    sees 0x001C0070 { start with regs := { RegFile.reset with rA := (w false 0 0 0 0 5) } }
      (fun t => (t.regs.rA, t.ov)) = some ((w true 0 0 0 0 2), false) := by decide

/-- `ENTA -5,1`, rI[1] = +5. -/
theorem test_ENTA_zero_takes_the_instruction_sign :
    sees 0x801410B0 { start with regs := { RegFile.reset with rI1 := (w false 0 0 0 0 5) } }
      (fun t => (t.regs.rA, t.ov)) = some ((w true 0 0 0 0 0), false) := by decide

/-- `ENNA -5,1`, rI[1] = +5. -/
theorem test_ENNA_zero_complements_the_sign :
    sees 0x801410F0 { start with regs := { RegFile.reset with rI1 := (w false 0 0 0 0 5) } }
      (fun t => (t.regs.rA, t.ov)) = some ((w false 0 0 0 0 0), false) := by decide

/-- `ENT2 100,2`. -/
theorem test_ENT2_wraps :
    sees 0x019020B2 { start with regs := { RegFile.reset with rI2 := (w false 63 63 63 63 63) } }
      (fun t => (t.regs.rI2, t.ov)) = some ((w false 0 0 0 1 35), false) := by decide

/-! ## Compare and jumps (section 2.4) -/

/-- `CMPA 1000`. -/
theorem test_CMPA_signed :
    sees 0x0FA00178 { start with
      regs := { RegFile.reset with rA := (w false 0 0 0 0 5) },
      mem := [(1000, (w true 0 0 0 0 5))] }
      (fun t => t.ci) = some Comparison.greater := by decide

/-- `CMPA 100(0:1)`. -/
theorem test_CMPA_signed_field :
    sees 0x01900078 { start with
      regs := { RegFile.reset with rA := (w true 1 0 0 0 0) },
      mem := [(100, (w false 2 0 0 0 0))] }
      (fun t => t.ci) = some Comparison.less := by decide

/-- `CMPX 1000(1:5)`. -/
theorem test_CMPX_unsigned_field :
    sees 0x0FA0037F { start with
      regs := { RegFile.reset with rX := (w true 0 0 0 0 3) },
      mem := [(1000, (w false 0 0 0 0 2))] }
      (fun t => t.ci) = some Comparison.greater := by decide

/-- `CMPA 100`, -0 against +0. -/
theorem test_CMPA_zeros :
    sees 0x01900178 { start with regs := { RegFile.reset with rA := (w true 0 0 0 0 0) } }
      (fun t => t.ci) = some Comparison.equal := by decide

/-- `JSJ 50`, rJ = 5. -/
theorem test_JSJ :
    sees 0x00C80067 { start with rJ := 5#12 }
      (fun t => (t.pc.val, t.rJ, t.ov)) = some (50, 5#12, false) := by decide

/-- `JOV 200`, OV = true. -/
theorem test_JOV_taken :
    sees 0x032000A7 { start with ov := true }
      (fun t => (t.pc.val, t.rJ, t.ov)) = some (200, 11#12, false) := by decide

/-- `JNOV 50`, OV = true, rJ = 5. -/
theorem test_JNOV_not_taken_clears :
    sees 0x00C800E7 { start with ov := true, rJ := 5#12 }
      (fun t => (t.pc.val, t.rJ, t.ov)) = some (11, 5#12, false) := by decide

/-- `JNE 50`, CI = GREATER. -/
theorem test_JNE :
    sees 0x00C80227 { start with ci := .greater }
      (fun t => (t.pc.val, t.rJ, t.ov)) = some (50, 11#12, false) := by decide

/-- `J3NP 50`, rI[3] = -0. -/
theorem test_J3NP_of_minus_zero :
    sees 0x00C8016B { start with regs := { RegFile.reset with rI3 := (w true 0 0 0 0 0) } }
      (fun t => (t.pc.val, t.rJ, t.ov)) = some (50, 11#12, false) := by decide

/-- `JXN 50`, rX = -0. -/
theorem test_JXN_of_minus_zero :
    sees 0x00C8002F { start with regs := { RegFile.reset with rX := (w true 0 0 0 0 0) } }
      (fun t => (t.pc.val, t.rJ, t.ov)) = some (11, 0#12, false) := by decide

/-! ## Shifts (section 2.5) -/

/-- `SLA 1`, `SRA 4`, `SLAX 6`, `SRAX 9`, `SLC 13`, `SRC 1`, `SRC 10`, `SRAX -1`. -/
theorem test_shifts : ∀ p ∈ [
      (0x00040006, (w false 2 3 4 5 0), (w true 6 7 8 9 10)),
      (0x00100046, (w false 0 0 0 0 1), (w true 6 7 8 9 10)),
      (0x00180086, (w false 7 8 9 10 0), (w true 0 0 0 0 0)),
      (0x002400C6, (w false 0 0 0 0 0), (w true 0 0 0 0 1)),
      (0x00340106, (w false 4 5 6 7 8), (w true 9 10 1 2 3)),
      (0x00040146, (w false 10 1 2 3 4), (w true 5 6 7 8 9)),
      (0x00280146, (w false 1 2 3 4 5), (w true 6 7 8 9 10)),
      (0x800400C6, (w false 1 2 3 4 5), (w true 6 7 8 9 10))],
    sees p.1 { start with
      regs := { RegFile.reset with rA := (w false 1 2 3 4 5), rX := (w true 6 7 8 9 10) } }
      (fun t => (t.regs.rA, t.regs.rX)) = some p.2 := by decide

/-- `SRAX -1`: W6. -/
theorem test_SRAX_negative_warns :
    sees 0x800400C6 start
      (fun t => t.trace) = some [.warning .w6] := by decide

/-! ## NOP, NUM, CHAR, HLT, MOVE (sections 2.6 and 2.7) -/

/-- `NUM`. -/
theorem test_NUM :
    sees 0x00000005 { start with
      regs := { RegFile.reset with rA := (w true 0 0 31 32 39), rX := (w false 37 57 47 30 30) } }
      (fun t => (t.regs.rA, t.regs.rX, t.ov)) = some ((w true 0 49 32 24 36), (w false 37 57 47 30 30),
        false) := by decide

/-- `NUM` of ten nines. -/
theorem test_NUM_keeps_30_bits :
    sees 0x00000005 { start with
      regs := { RegFile.reset with rA := (w false 39 39 39 39 39), rX := (w true 39 39 39 39 39) } }
      (fun t => (t.regs.rA, t.regs.rX, t.ov)) = some ((w false 20 2 62 15 63), (w true 39 39 39 39 39),
        false) := by decide

/-- `CHAR` of -(2^30-1). -/
theorem test_CHAR :
    sees 0x00000045 { start with
      regs := { RegFile.reset with rA := (w true 63 63 63 63 63), rX := (w false 0 0 0 0 5) } }
      (fun t => (t.regs.rA, t.regs.rX, t.ov)) = some ((w true 31 30 37 33 37), (w false 34 31 38 32 33),
        false) := by decide

/-- `HLT`. -/
theorem test_HLT :
    sees 0x00000085 start
      (fun t => (t.pc.val, t.rs)) = some (11, RunState.halt) := by decide

/-- `NOP` with every ignored field set. -/
theorem test_NOP :
    sees 0xBFFFFFC0 start
      (fun t => decide (t = start)) = some true := by decide

/-- `MOVE 1000(3)` onto 1001: the first word is replicated. -/
theorem test_MOVE_overlap :
    sees 0x0FA000C7 { start with
      regs := { RegFile.reset with rI1 := (w false 0 0 0 15 41) },
      mem := [(1000, (w false 0 0 0 0 1)), (1001, (w false 0 0 0 0 2)), (1002, (w false 0 0 0 0 3)), (1003,
        (w false 0 0 0 0 4)), (1004, (w false 0 0 0 0 5))] }
      (fun t => ([1000, 1001, 1002, 1003, 1004].map (Memory.read t.mem), t.regs.rI1)) = some ([(w false 0 0 0 0 1),
        (w false 0 0 0 0 1), (w false 0 0 0 0 1), (w false 0 0 0 0 1), (w false 0 0 0 0 5)],
          (w false 0 0 0 15 44)) := by decide

/-- `MOVE 100(2)`, rI[1] = +5000: W3, and the destination wraps. -/
theorem test_MOVE_clamped_destination :
    sees 0x01900087 { start with
      regs := { RegFile.reset with rI1 := (w false 0 0 1 14 8) },
      mem := [(100, (w false 0 0 0 0 9)), (101, (w false 0 0 0 0 8))] }
      (fun t => (t.readMem 3999, t.readMem 0, t.regs.rI1, t.trace)) = some ((w false 0 0 0 0 9), (w false 0 0 0 0 8),
        (w false 0 0 0 0 1), [.warning .w3]) := by decide

/-! ## Input and output (sections 2.8 and 2.9) -/

/-- `IN 3990(0)`, tape 0 free. -/
theorem test_IN_builds_a_descriptor :
    sees 0x3E580024 start
      (fun t => (t.descOf 0, t.pc.val, t.trace)) = some (.words .input 100 3990, 11,
        [.busyQuery 0 false, .beginWordIO 0 (.words .input 100 3990)]) := by decide

/-- `IN 100(16)`, reader busy. -/
theorem test_IN_busy_rolls_back :
    sees 0x01900424 { start with busy := start.busy.set 16 true }
      (fun t => (t.pc.val, t.rs, t.wn, t.trace)) = some (10, RunState.waitDevice 16, true, [.busyQuery 16 true,
        .notifyWaiting 16 true]) := by decide

/-- `OUT 2000(18)`, printer free. -/
theorem test_OUT_builds_a_descriptor :
    sees 0x1F4004A5 start
      (fun t => t.descOf 18) = some (.chars .output 120 2000 0 Word.plusZero) := by decide

/-- `OUT 100(21)`: W4. -/
theorem test_OUT_invalid_device :
    sees 0x01900565 start
      (fun t => (t.pc.val, t.trace)) = some (11, [.warning .w4]) := by decide

/-- `IOC 0(3)`, `IOC -2(0)`, `IOC 5(7)`, `IOC 0(18)`, `IOC 1(18)`, `IOC 0(8)`, each device free. -/
theorem test_IOC : ∀ p ∈ [
      (0x000000E3, [Event.busyQuery 3 false, .deviceControl (.rewind 3)]),
      (0x80080023, [Event.busyQuery 0 false, .deviceControl (.skipBackward 0 200)]),
      (0x001401E3, [Event.busyQuery 7 false, .deviceControl (.skipForward 7 500)]),
      (0x000004A3, [Event.busyQuery 18 false, .deviceControl .skipToNextPage]),
      (0x000404A3, [Event.busyQuery 18 false, .warning .w8]),
      (0x00000223, [Event.busyQuery 8 false, .warning .w8])],
    sees p.1 start (fun t => t.trace) = some p.2 := by decide

/-- `JBUS 10(16)`, reader busy. -/
theorem test_JBUS_busy :
    sees 0x00280422 { start with busy := start.busy.set 16 true }
      (fun t => (t.pc.val, t.rJ, t.ov)) = some (10, 11#12, false) := by decide

/-- `JRED 200(18)`, printer busy. -/
theorem test_JRED_busy :
    sees 0x032004A6 { start with busy := start.busy.set 18 true }
      (fun t => (t.pc.val, t.rJ, t.ov)) = some (11, 0#12, false) := by decide

/-- `JRED 200(63)`: W4, no query. -/
theorem test_JRED_invalid_device :
    sees 0x03200FE6 start
      (fun t => (t.pc.val, t.trace)) = some (11, [.warning .w4]) := by decide

/-- `write_chars` of seven characters, and the memory and descriptor after them. -/
theorem test_write_chars :
    (after (adapterStep 16 (.writeChars [1, 2, 3, 4, 5, 6, 7])
      (start.setDesc 16 (.chars .input 80 1000 0 Word.plusZero)))).map (fun t => (t.mem, t.descOf 16)) =
      some ([(1000, w false 1 2 3 4 5)], .chars .input 73 1001 2 (w false 0 0 0 6 7)) := by decide

/-- `read_chars` delivers the bytes and not the sign. -/
theorem test_read_chars :
    (after (adapterStep 18 (.readChars 6)
      { start.setDesc 18 (.chars .output 120 2000 0 Word.plusZero) with
        mem := [(2000, w true 8 5 12 12 15), (2001, w false 40 0 0 0 0)] })).map (fun t => (t.trace, t.descOf 18)) =
      some ([.charsDelivered 18 [8, 5, 12, 12, 15, 40], .adapterReturned 18 114],
        .chars .output 114 2001 1 (w false 40 0 0 0 0)) := by decide

/-- `write_words` clears bit 30 and wraps after 3999. -/
theorem test_write_words :
    (after (adapterStep 0 (.writeWords [0xC0000005, 0x00000007])
      (start.setDesc 0 (.words .input 100 3999)))).map (fun t => (t.mem, t.descOf 0)) =
      some ([(0, w false 0 0 0 0 7), (3999, w true 0 0 0 0 5)], .words .input 98 1) := by decide

/-- `read_words` of -0: the returned count is limited by the remaining count. -/
theorem test_read_words :
    (after (adapterStep 0 (.readWords 5)
      { start.setDesc 0 (.words .output 1 10) with mem := [(10, w true 0 0 0 0 0)] })).map (fun t => (t.trace,
        t.descOf 0)) =
      some ([.wordsDelivered 0 [0x80000000], .adapterReturned 0 0], .words .output 0 11) := by decide

/-! ## The step (section 2.10) -/

/-- A placed word is the next to run, from the state after reset. -/
theorem test_step_runs_the_placed_word :
    (after (step (State.reset.withFetchWord 32 0x00000085))).map (fun t => (t.rs, t.pc.val, t.ppc.val)) =
      some (.halt, 1, 0) := by decide

/-- An unsupported sub-operation (C = 48, F = 4) is a no-operation with W5. -/
theorem test_step_unsupported :
    (after (step (State.reset.withFetchWord 32 0x001C0130))).map (fun t => (t.regs, t.pc.val, t.trace)) =
      some (RegFile.reset, 1, [.warning .w5]) := by decide

/-- NOP at address 3999 goes on at 0. -/
theorem test_step_pc_wraps :
    (after (step { State.reset with rs := .running, pc := 3999 })).map (fun t => t.pc.val) = some 0 := by decide

/-- `STA 10` at address 10: the next fetch sees the new word, the store is before the next step. -/
theorem test_step_store_into_own_address :
    (after (step { at10 0x00280158 with regs := { RegFile.reset with rA := w false 1 2 3 4 5 } })).map
      (fun t => (t.readMem 10, t.pc.val)) = some (w false 1 2 3 4 5, 11) := by decide

/-- BOOT_READ(1) with the reader free, pc = 777, rJ = 55. -/
theorem test_step_boot_read_one :
    (after (step { State.reset with rs := .bootRead1, pc := 777, rJ := 55#12 })).map
      (fun t => (t.pc.val, t.rJ, t.rs)) = some (0, 0#12, .running) := by decide

/-- `run(100)` in HALT returns (0, true) after one stop check. -/
theorem test_run_in_halt :
    ((after (step { State.reset with rs := .halt, sched := [.hostRun 100] })).bind fun s => after (step s)).map
      (fun t => (t.runBudget, t.trace)) = some (none, [.signalsChecked false, .runReturned 0 true]) := by decide

/-- `initialize` (R460): every state element as after reset, from any state. -/
theorem test_step_initialize :
    (after (step { start with
      rs := .waitDevice 3, wn := true, ov := true, mem := [(5, w true 1 2 3 4 5)], sched := [.hostReset] })).map
      (fun t => (t.pc.val, t.ov, t.wn, t.mem)) = some (0, false, false, []) := by decide

/-! ## The assumptions on the environment (46_io.md R392) -/

/-- E3: the reader answers busy until its last call, and is free after it. -/
theorem test_E3_kept : busyUntilLastCall 16 none
    [.busyQuery 16 false, .beginCharIO 16 (newDesc 16 .input 0), .busyQuery 16 true, .adapterReturned 16 40,
     .busyQuery 16 true, .adapterReturned 16 0, .busyQuery 16 false] = true := by decide

/-- E3 allows a transfer that is abandoned (R380), and the next one on the same device. -/
theorem test_E3_abandoned : busyUntilLastCall 16 none
    [.beginCharIO 16 (newDesc 16 .input 0), .adapterReturned 16 40, .busyQuery 16 false,
     .beginCharIO 16 (newDesc 16 .input 100), .busyQuery 16 true, .adapterReturned 16 0] = true := by decide

/-- E3 is broken by a call after the device has answered free. -/
theorem test_E3_broken : busyUntilLastCall 16 none
    [.beginCharIO 16 (newDesc 16 .input 0), .busyQuery 16 false, .adapterReturned 16 40] = false := by decide

/-- Right after an IN the proviso of R72 (c) holds if the environment makes the device busy before the core moves again. -/
theorem test_liveIsBusy_after_IN :
    ({ start.setDesc 16 (newDesc 16 .input 0) with sched := [.setBusy 16 true] } : State).liveIsBusy ∧
    ({ start.setDesc 16 (newDesc 16 .input 0) with busy := start.busy.set 16 true } : State).liveIsBusy := by
  constructor
  · intro h; cases h
  · intro _; decide

/-- The premises on runs can be met together: the halted core. -/
theorem test_premises_can_be_met : ∃ r : Nat → State, IsRun r ∧ EventuallyFree r ∧ ∀ n, (r n).busyWhileCalled :=
  ⟨fun _ => { start with rs := .halt }, fun _ => rfl,
    fun _ h => by
      obtain ⟨_, h⟩ := h 1
      exact absurd h (Nat.not_succ_le_zero 0), fun _ _ => rfl⟩

/-! ## Witnesses: the hypotheses of each statement hold together at these values -/

theorem witness_DecodeOfEncodeGivesTheInstructionBack :
    WellFormed (.nop ⟨false, 0, 0⟩ 0) ∧ WellFormed (.cmpx ⟨true, 4095, 63⟩ 63) := by decide

theorem witness_EncodeOfDecodeGivesTheWordBack : decode (w false 31 16 2 3 8) = .ok (.lda ⟨false, 2000, 2⟩ 3) := by rfl

theorem witness_StepRunsTheDecodedInstruction :
    (at10 0x00000085).runs ∧ decode ((at10 0x00000085).readMem (at10 0x00000085).pc) = .ok (.hlt ⟨false, 0, 0⟩) :=
  ⟨⟨rfl, rfl, rfl⟩, rfl⟩

theorem witness_UnsupportedSubOperationIsANoOperation :
    (at10 0x001C0130).runs ∧ decode ((at10 0x001C0130).readMem (at10 0x001C0130).pc) = .error (.unsupported 48 4) :=
  ⟨⟨rfl, rfl, rfl⟩, rfl⟩

theorem start_inv : start.Inv := ⟨rfl, by decide, rfl⟩

theorem witness_EveryStepKeepsTheInvariant :
    (start.Inv ∧ ∃ t : State, step start = .next t) ∧
      ∃ s t : State, s.nextTurn = .adapter 16 (.writeChars [1, 2, 3, 4, 5]) ∧ s.Inv ∧ step s = .next t :=
  ⟨⟨start_inv, _, rfl⟩,
    { start.setDesc 16 (.chars .input 80 0 0 Word.plusZero) with sched := [.adapter 16 (.writeChars [1, 2, 3, 4, 5])] },
    _, rfl, ⟨rfl, by decide, rfl⟩, rfl⟩

theorem witness_ResetLeavesEverythingZero : ({ start with sched := [.hostReset] } : State).nextTurn =
  .hostReset := by rfl

theorem witness_HaltIsLeftOnlyByBootOrInitialize :
    (∃ s t : State, s.rs = .halt ∧ step s = .next t ∧ s.nextTurn = .core ∧ s.runBudget = none) ∧
      ∀ u ∈ [Turn.hostBoot, .hostReset], ∃ s t : State, s.rs = .halt ∧ step s = .next t ∧ s.nextTurn = u := by
  refine ⟨⟨{ start with rs := .halt }, _, rfl, rfl, rfl, rfl⟩, fun u hu => ?_⟩
  simp only [List.mem_cons, List.not_mem_nil, or_false] at hu
  rcases hu with rfl | rfl
  · exact ⟨{ start with rs := .halt, sched := [.hostBoot] }, _, rfl, rfl, rfl⟩
  · exact ⟨{ start with rs := .halt, sched := [.hostReset] }, _, rfl, rfl, rfl⟩

theorem witness_WaitDeviceStepPollsTheDevice : ∀ b : Bool,
    let s : State := { start with rs := .waitDevice 20, wn := true, busy := start.busy.set 20 b, runBudget := some 1 }
    s.nextTurn = .core ∧ s.rs = .waitDevice 20 ∧ s.mayStep = true ∧ s.busy[(20 : Device).val] = b := by decide

theorem witness_BootReadZeroIssuesTheCardRead : ∀ b : Bool,
    let s : State := { start with rs := .bootRead0, busy := start.busy.set 16 b, runBudget := some 1 }
    s.nextTurn = .core ∧ s.rs = .bootRead0 ∧ s.mayStep = true ∧ s.busy[16] = b := by decide

theorem witness_BootReadOneStartsExecutionAtZero : ∀ b : Bool,
    let s : State := { start with rs := .bootRead1, busy := start.busy.set 16 b }
    s.nextTurn = .core ∧ s.rs = .bootRead1 ∧ s.mayStep = true ∧ s.busy[16] = b := by decide

theorem witness_BootRequestIsAcceptedInEveryState :
    (let s : State := { start with rs := .waitDevice 3, wn := true, sched := [.hostBoot] }
     s.nextTurn = .hostBoot ∧ s.rs = .waitDevice 3 ∧ s.wn = true) ∧
    (let s : State := { start with rs := .waitDevice 3, sched := [.hostBoot] }
     s.nextTurn = .hostBoot ∧ ∀ d : Device, s.rs = .waitDevice d → s.wn = false) := by decide

theorem witness_RunTransactionBeginsAndEnds_begin :
    let s : State := { start with sched := [.hostRun 0] }
    s.nextTurn = .hostRun 0 ∧ s.runBudget = none := by decide

/-- The budget just reached, and HALT with budget left, each under every answer of `check_signals`. -/
theorem witness_RunTransactionBeginsAndEnds_end :
    (∀ g ∈ [none, some false, some true],
      let s : State := { start with cyc := 5, runBudget := some 5, signals := g }
      s.nextTurn = .core ∧ s.runBudget = some 5 ∧ (5 ≤ s.cyc ∨ s.rs = .halt) ∧ s.signals = g ∧ s.wn = false) ∧
    (let s : State := { start with rs := .halt, runBudget := some 5 }
     s.nextTurn = .core ∧ s.runBudget = some 5 ∧ (5 ≤ s.cyc ∨ s.rs = .halt) ∧ s.signals = some false) ∧
    ∀ r ∈ [RunState.waitDevice 16, .bootRead0, .bootRead1],
      let s : State := { start with rs := r, wn := true, runBudget := some 0, signals := some true }
      s.nextTurn = .core ∧ s.runBudget = some 0 ∧ (0 ≤ s.cyc ∨ s.rs = .halt) ∧ s.signals = some true ∧ s.wn = true ∧
        (s.rs = .waitDevice 16 ∨ (16 : Device) = 16 ∧ (s.rs = .bootRead0 ∨ s.rs = .bootRead1)) := by decide

theorem witness_StoresReplaceTheFieldAtMOnly : Memory.wf (withCell 3999 (w true 0 0 0 0 1)).mem = true := by decide

theorem witness_StoreJumpAndStoreZeroAtMOnly : Memory.wf (withCell 0 (w true 0 0 0 0 0)).mem = true := by decide

/-- The fields (0:0), (0:1), (0:5), (1:1) and (5:5) at the first and the last byte. -/
theorem witness_FieldLoadRightAlignsTheBytes :
    ∀ p ∈ [(0, 0), (0, 1), (0, 5), (1, 1), (5, 5)], ∀ j ∈ [1, 5],
      p.1 ≤ p.2 ∧ p.2 ≤ 5 ∧ (p.2 = 0 ∨ 0 < p.2) ∧ 1 ≤ j ∧ j ≤ 5 := by decide

theorem witness_FieldStoreReplacesTheBytes :
    ∀ p ∈ [(0, 0), (0, 1), (0, 5), (1, 1), (5, 5)], ∀ j ∈ [1, 5], p.1 ≤ p.2 ∧ p.2 ≤ 5 ∧ 1 ≤ j ∧ j ≤ 5 := by decide

theorem witness_StoreOfLoadCopiesTheField :
    ∀ p ∈ [(0, 0), (2, 3), (0, 5), (5, 5)], ∀ j ∈ [1, 5], p.1 ≤ p.2 ∧ p.2 ≤ 5 ∧ 1 ≤ j ∧ j ≤ 5 := by decide

/-- The largest sum that fits, the smallest that does not, and a zero sum. -/
theorem witness_AdditionIsExactOrSetsOverflow :
    let s : Nat → State := fun n => { start with regs := { RegFile.reset with rA := word false n }, mem := [(0,
      word false 1)] }
    (∀ n, ∃ t, exec (.add ⟨false, 0, 0⟩ 5) (s n) = .next t) ∧
    ((s (2 ^ 30 - 2)).regs.rA.val + ((s (2 ^ 30 - 2)).operand ⟨false, 0, 0⟩ 5).val).natAbs = 2 ^ 30 - 1 ∧
    ((s (2 ^ 30 - 1)).regs.rA.val + ((s (2 ^ 30 - 1)).operand ⟨false, 0, 0⟩ 5).val).natAbs = 2 ^ 30 ∧
    start.regs.rA.val + (start.operand ⟨false, 0, 0⟩ 5).val = 0 :=
  ⟨fun _ => ⟨_, rfl⟩, by decide, by decide, by decide⟩

theorem witness_DivideGivesQuotientAndRemainder :
    let s : State := { start with regs := { RegFile.reset with rA := word true (2 ^ 30 - 2) }, mem := [(9,
      word false (2 ^ 30 - 1))] }
    s.regs.rA.magnitude < (s.operand ⟨false, 9, 0⟩ 5).magnitude := by decide

theorem witness_ImpossibleDivideOnlySetsOverflow :
    (start.operand ⟨false, 9, 0⟩ 5).magnitude = 0 ∧
    (let s : State := { start with regs := { RegFile.reset with rA := word true 3 }, mem := [(9, word false 3)] }
     (s.operand ⟨false, 9, 0⟩ 5).magnitude ≠ 0 ∧ (s.operand ⟨false, 9,
       0⟩ 5).magnitude ≤ s.regs.rA.magnitude) := by decide

theorem witness_MultiplyThenDivideRecoversTheFactor :
    ((withCell 9 (w true 0 0 0 1 48)).operand ⟨false, 9, 0⟩ 5).magnitude ≠ 0 := by decide

theorem witness_EnterAndEnterNegativeLoadM :
    start.mRaw ⟨false, 1, 0⟩ ≠ 0 ∧ start.mRaw ⟨true, 1, 0⟩ < 0 ∧ start.mRaw ⟨true, 0, 0⟩ = 0 := by decide

theorem witness_ComparesOrderTheSameFields :
    let s : State := { start with regs := { RegFile.reset with rA := word true 2 }, mem := [(9, word true 3)] }
    let x := fun f => (fieldLoad (s.reg .a) (fieldSpec f)).val
    let y := fun f => (fieldLoad (s.readMem (s.mAddr ⟨false, 9, 0⟩)) (fieldSpec f)).val
    y 5 < x 5 ∧ x 13 < y 13 ∧ x 1 = y 1 ∧ (fieldSpec 0).r = 0 := by decide

/-- The counts 0, 5, 10 and the largest direct count. -/
theorem witness_ShiftsOfAMoveItsBytes :
    ∀ n ∈ [0, 5, 10, 4095], start.mRaw ⟨false, n, 0⟩ = (n : Int) := by decide

theorem witness_ShiftsOfThePairMoveItsBytes :
    ∀ n ∈ [0, 9, 10, 4095], start.mRaw ⟨false, n, 0⟩ = (n : Int) := by decide

theorem witness_RotationsOfThePairRotateItsBytes :
    ∀ n ∈ [0, 9, 10, 13, 4095], start.mRaw ⟨false, n, 0⟩ = (n : Int) := by decide

theorem witness_NegativeShiftCountDoesNothing : start.mRaw ⟨true, 1, 0⟩ < 0 := by decide

theorem witness_ShiftCountsAdd :
    (∃ t u : State, exec (.slax ⟨false, 4, 0⟩) start = .next t ∧ exec (.slax ⟨false, 1, 0⟩) t = .next u) ∧
    (∃ t u : State, exec (.srax ⟨false, 4, 0⟩) start = .next t ∧ exec (.srax ⟨false, 1, 0⟩) t = .next u) ∧ 10 ≤ 10 :=
  ⟨⟨_, _, rfl, rfl⟩, ⟨_, _, rfl, rfl⟩, by decide⟩

/-- One word and 63 words, with the source in range and above it. -/
theorem witness_MoveCopiesWordByWord :
    ∀ f ∈ [1, 63], ∀ a ∈ [0, 3999, 4095],
      Memory.wf start.mem = true ∧ 1 ≤ f ∧ f ≤ 63 ∧ 0 ≤ start.mRaw ⟨false, a, 0⟩ := by decide

theorem witness_MoveWithNoWordsOrNegativeSourceDoesNothing :
    (1 : Nat) ≠ 0 ∧ start.mRaw ⟨true, 1, 0⟩ < 0 := by decide

theorem witness_InAndOutHandOverADescriptor : ∀ d : Device, start.busy[d.val] = false := by decide

/-- Tape 7, the printer and the devices beside them, with a negative, a zero and a positive M. -/
theorem witness_IocIssuesTheControlOperation :
    (∀ d : Device, start.busy[d.val] = false) ∧ (7 : Device).val ≤ 7 ∧ (18 : Device).val = 18 ∧
    (∀ d ∈ [(8 : Device), 17, 19, 20], 7 < d.val ∧ d.val ≠ 18) ∧
    start.mRaw ⟨true, 1, 0⟩ < 0 ∧ start.mRaw ⟨false, 0, 0⟩ = 0 ∧ 0 < start.mRaw ⟨false, 1, 0⟩ := by decide

theorem witness_InvalidDeviceIsANoOperation :
    20 < 21 ∧ Instr.jred ⟨false, 0, 0⟩ 21 ∈ [Instr.inp ⟨false, 0, 0⟩ 21, .out ⟨false, 0, 0⟩ 21, .ioc ⟨false, 0, 0⟩ 21,
      .jbus ⟨false, 0, 0⟩ 21, .jred ⟨false, 0, 0⟩ 21] := by decide

/-- `IN 100(16)` at address 10 with the reader busy. -/
theorem witness_BusyDeviceRollsTheInstructionBack :
    let s : State := { at10 0x01900424 with busy := start.busy.set 16 true }
    s.runs ∧ s.busy[(16 : Device).val] = true ∧ decode (s.readMem s.pc) = .ok (.inp ⟨false, 100,
      0⟩ (16 : Device).val) :=
  ⟨⟨rfl, rfl, rfl⟩, rfl, rfl⟩

/-- A call that moves something in each of the four adapters. -/
theorem witness_AdapterCallsTouchOnlyTheDescriptorAndMemory :
    (∃ t, adapterStep 0 (.readWords 1) (start.setDesc 0 (.words .output 100 3999)) = .next t) ∧
    (∃ t, adapterStep 18 (.readChars 1) (start.setDesc 18 (.chars .output 120 0 4 Word.plusZero)) = .next t) ∧
    (∃ t, adapterStep 0 (.writeWords [5]) (start.setDesc 0 (.words .input 1 3999)) = .next t) ∧
    ∃ t, adapterStep 16 (.writeChars [5]) (start.setDesc 16 (.chars .input 1 0 4 Word.plusZero)) = .next t :=
  ⟨⟨_, rfl⟩, ⟨_, rfl⟩, ⟨_, rfl⟩, ⟨_, rfl⟩⟩

/-- One word and a whole block, from the last address on. -/
theorem witness_WordAdaptersMoveWordsFromTheCursor :
    (∀ n ∈ [1, 100, 101], (start.setDesc 15 (.words .output 100 3999)).descOf 15 =
      .words .output 100 3999 ∧ 1 ≤ min n 100) ∧
    ∀ n ∈ [1, 100, 101], Memory.wf start.mem = true ∧
      (start.setDesc 15 (.words .input 100 3999)).descOf 15 = .words .input 100 3999 ∧
      1 ≤ min (List.replicate n (5 : BitVec 32)).length 100 ∧ 100 ≤ 100 := by decide

/-- The first and the last position of a read, and the positions 3 and 4 where the two clauses of a write meet. -/
theorem witness_CharacterAdaptersMoveTheNextByte :
    (∀ p ∈ [(0 : Fin 5), 4], (start.setDesc 18 (.chars .output 1 3999 p Word.plusZero)).descOf 18 =
      .chars .output 1 3999 p Word.plusZero ∧ 1 ≤ 1) ∧
    (∀ p ∈ [(3 : Fin 5), 4], (start.setDesc 16 (.chars .input 1 3999 p Word.plusZero)).descOf 16 =
      .chars .input 1 3999 p Word.plusZero ∧ (p.val < 4 ∨ p.val = 4) ∧ Memory.wf start.mem = true) := by decide

theorem witness_CharacterInputMayComeInPieces :
    ∃ s t u v : State, adapterStep 16 (.writeChars [1, 2]) s = .next t ∧ adapterStep 16 (.writeChars [3, 4, 5,
      6]) t = .next u ∧
      adapterStep 16 (.writeChars ([1, 2] ++ [3, 4, 5, 6])) s = .next v :=
  ⟨start.setDesc 16 (.chars .input 80 3999 0 Word.plusZero), _, _, _, rfl, rfl, rfl⟩

theorem witness_OverflowLatchIsStickyAndPrivateToItsInstructions :
    (∀ i ∈ [Instr.add ⟨false, 9, 0⟩ 5, .sub ⟨false, 9, 0⟩ 5, .div ⟨false, 9, 0⟩ 5, .incOf .x ⟨false, 9, 0⟩,
      .decOf .i6 ⟨false, 9, 0⟩, .jov ⟨false, 9, 0⟩, .jnov ⟨false, 9, 0⟩], (after (exec i start)).isSome = true) ∧
    (∀ m f, Instr.hlt ⟨false, 0, 0⟩ ≠ .add m f ∧ Instr.hlt ⟨false, 0, 0⟩ ≠ .sub m f ∧ Instr.hlt ⟨false, 0,
      0⟩ ≠ .div m f ∧
      Instr.hlt ⟨false, 0, 0⟩ ≠ .jov m ∧ Instr.hlt ⟨false, 0, 0⟩ ≠ .jnov m) ∧
    ∀ k m, Instr.hlt ⟨false, 0, 0⟩ ≠ .incOf k m ∧ Instr.hlt ⟨false, 0, 0⟩ ≠ .decOf k m :=
  ⟨by decide, fun _ _ => by simp, fun k _ => by cases k <;> simp [Instr.incOf, Instr.decOf]⟩

theorem witness_ComparisonIndicatorIsWrittenByComparesAndReadByBranches :
    (∃ t, exec (.jov ⟨false, 0, 0⟩) start = .next t) ∧ (∀ k m f, Instr.jov ⟨false, 0, 0⟩ ≠ .cmpOf k m f) ∧
    ∀ m, Instr.jov ⟨false, 0, 0⟩ ≠ .jl m ∧ Instr.jov ⟨false, 0, 0⟩ ≠ .je m ∧ Instr.jov ⟨false, 0, 0⟩ ≠ .jg m ∧
      Instr.jov ⟨false, 0, 0⟩ ≠ .jge m ∧ Instr.jov ⟨false, 0, 0⟩ ≠ .jne m ∧ Instr.jov ⟨false, 0, 0⟩ ≠ .jle m :=
  ⟨⟨_, rfl⟩, fun k _ _ => by cases k <;> simp [Instr.cmpOf], fun _ => by simp⟩

/-- A load, an increment, a MUL (both registers of the pair) and a MOVE that each change a register. -/
theorem witness_RegistersChangeOnlyByTheirWriters :
    ∀ p ∈ [(Instr.lda ⟨false, 9, 0⟩ 5, Reg.a), (.inc6 ⟨false, 9, 0⟩, .i6), (.mul ⟨false, 9, 0⟩ 5, .x),
        (.mul ⟨false, 9, 0⟩ 5, .a), (.move ⟨false, 9, 0⟩ 1, .i1)],
      let s : State := { start with
        regs := { RegFile.reset with rA := w false 1 0 0 0 1, rX := w true 0 0 0 0 9 }, mem := [(9,
          w false 0 0 0 3 4)] }
      sees ((encode p.1).toContainer.toNat) s (fun t => decide (t.reg p.2 ≠ s.reg p.2)) = some true := by decide

/-- A store, an HLT, an IN on a busy device, an IN on a free one,
  and a jump: each changes the part its clause is about. -/
theorem witness_ExecutionChangesTheRestOnlyWhereTheSpecSays :
    let s : State := { start with mem := [(9, w false 0 0 0 3 4)], busy := start.busy.set 16 true }
    (after (exec (.stz ⟨false, 9, 0⟩ 5) s)).map (fun t => decide (t.mem ≠ s.mem)) = some true ∧
    (after (exec (.hlt ⟨false, 9, 0⟩) s)).map (fun t => decide (t.rs ≠ s.rs)) = some true ∧
    (after (exec (.inp ⟨false, 9, 0⟩ 16) s)).map (fun t => decide (t.rs ≠ s.rs ∧ t.wn ≠ s.wn ∧ t.pc ≠ s.pc)) =
      some true ∧
    (after (exec (.inp ⟨false, 9, 0⟩ 17) s)).map (fun t => decide (t.desc ≠ s.desc)) = some true ∧
    (after (exec (.jmp ⟨false, 9, 0⟩) s)).map (fun t => decide (t.rJ ≠ s.rJ ∧ t.pc ≠ s.pc)) = some true := by decide

end Sys2Proof.Tests
end

section
/-! The container of a word (00_scope.md R8), bit by bit, and obligation O5. -/

namespace Sys2Proof

/-! ## Reading a container -/

/-- Bit 31 of a container is the sign of the word it stands for. -/
@[simp] theorem Word.ofContainer_neg (c : BitVec 32) : (Word.ofContainer c).neg = c.getLsbD 31 :=
  c.msb_eq_decide.symm

/-- Bits 29..0 of a container are the magnitude of the word it stands for. -/
@[simp] theorem Word.ofContainer_mag (c : BitVec 32) : (Word.ofContainer c).mag = c.setWidth 30 :=
  BitVec.ofNat_toNat 30 c

/-! ## Writing a container -/

/-- The layout of a container: the sign, a zero bit, the magnitude (R8, R46). -/
theorem Word.toContainer_eq_append (w : Word) : w.toContainer = BitVec.ofBool w.neg ++ 0#1 ++ w.mag := by
  apply BitVec.eq_of_toNat_eq
  have hmag := w.mag.isLt
  rw [Word.toContainer, BitVec.toNat_ofNat, BitVec.toNat_append, ← Nat.shiftLeft_add_eq_or_of_lt hmag]
  cases w.neg
  · simp; omega
  · simp; omega

theorem Word.toContainer_sign (w : Word) : w.toContainer.getLsbD 31 = w.neg := by
  simp only [Word.toContainer_eq_append, BitVec.getLsbD_append]
  simp

@[simp] theorem Word.toContainer_setWidth (w : Word) : w.toContainer.setWidth 30 = w.mag := by
  rw [Word.toContainer_eq_append, BitVec.setWidth_append_eq_right]

theorem Word.toContainer_magnitude_bit (w : Word) (i : Nat) (hi : i < 30) :
    w.toContainer.getLsbD i = w.mag.getLsbD i := by
  rw [← w.toContainer_setWidth, BitVec.getLsbD_setWidth, decide_eq_true hi, Bool.true_and]

/-! ## There and back -/

@[simp] theorem Word.ofContainer_toContainer (w : Word) : Word.ofContainer w.toContainer = w := by
  have hsign : (Word.ofContainer w.toContainer).neg = w.neg := by rw [Word.ofContainer_neg, w.toContainer_sign]
  have hmag : (Word.ofContainer w.toContainer).mag = w.mag := by rw [Word.ofContainer_mag, w.toContainer_setWidth]
  exact Word.ext_magnitude _ _ hsign (congrArg BitVec.toNat hmag)

/-- The mask of R105 and R386 has every bit but bit 30. -/
theorem clearBit30Mask_getLsbD : ∀ i < 32, (0xBFFFFFFF#32).getLsbD i = decide (i ≠ 30) := by decide

/-- Reading a container and writing the word back clears bit 30 and nothing else (R105, R386). -/
theorem Word.toContainer_ofContainer (c : BitVec 32) : (Word.ofContainer c).toContainer = c &&& 0xBFFFFFFF#32 := by
  apply BitVec.eq_of_getLsbD_eq
  intro i hi
  rw [BitVec.getLsbD_and, clearBit30Mask_getLsbD i hi]
  obtain hlow | rfl | rfl : i < 30 ∨ i = 30 ∨ i = 31 := by omega
  · have hne : i ≠ 30 := by omega
    rw [Word.toContainer_magnitude_bit _ i hlow, Word.ofContainer_mag, BitVec.getLsbD_setWidth]
    simp [hlow, hne]
  · rw [Laws.EncodingRow.bit30]
    simp
  · rw [Word.toContainer_sign, Word.ofContainer_neg]
    simp

/-- Settles O5: the sign is read off the layout `toContainer_eq_append`, a word comes back by its sign and magnitude, and a
container comes back bit by bit but for bit 30. -/
theorem containerHoldsTheWordWithBit30Clear : Obligations.ContainerHoldsTheWordWithBit30Clear :=
  ⟨fun w => ⟨w.ofContainer_toContainer, w.toContainer_sign, Laws.EncodingRow.bit30 w⟩, Word.toContainer_ofContainer⟩

end Sys2Proof
end

section
/-! The state after reset (10_state.md R48): obligations O9 and O10. -/

namespace Sys2Proof.Machine

@[simp] theorem State.reset_descOf (d : Device) :
    State.reset.descOf d = if d.val < 16 then .words .input 0 0 else .chars .input 0 0 0 Word.plusZero := by
  simp [State.descOf, State.reset, resetDescs]

/-- The run state after reset is one of the two values RESET_RUN_STATE may have (R7). -/
theorem State.reset_rs : State.reset.rs = .running ∨ State.reset.rs = .halt := by
  unfold State.reset
  cases Config.resetRunning
  · exact .inr rfl
  · exact .inl rfl

/-- Settles O9: the memory is empty, every descriptor idle, and the latch clear as both run states reset may leave ask. -/
theorem resetMeetsTheInvariant : Obligations.ResetMeetsTheInvariant where
  memory := rfl
  descriptors d := by
    rw [State.reset_descOf]
    split
    · next hd => simp [Desc.fits, hd]
    · next hd => simpa [Desc.fits] using hd
  waiting := by
    rcases State.reset_rs with hrs | hrs
    · rw [hrs]; rfl
    · rw [hrs]; rfl

/-- Settles O10: every field is read off `State.reset`, and the host's reset turn puts these values into any state. -/
theorem resetLeavesEverythingZero : Obligations.ResetLeavesEverythingZero := by
  refine ⟨fun k => by cases k <;> rfl, rfl, rfl, rfl, rfl, rfl, rfl, rfl, rfl, fun _ => rfl, fun d => ⟨.input, ?_⟩,
    State.reset_rs, fun s hturn => ?_⟩
  · have hslots : d.val < 16 ↔ d.val ≤ 15 := Nat.lt_succ_iff
    simp only [State.reset_descOf, hslots, Word.plusZero]
  · rw [step, hturn]
    rfl

end Sys2Proof.Machine
end

section
/-! The invariant of the state under the step of every agent (10_state.md R32, R40, R41): obligation O8. -/

namespace Sys2Proof.Machine

/-! ## What keeps the invariant -/

theorem Keeps.inv {s t : State} (hk : Keeps s t) (hs : s.Inv) : t.Inv :=
  ⟨hk.memory hs.memory, hk.descriptors hs.descriptors, hk.waiting hs.waiting⟩

/-- A change of anything but the memory and the descriptors keeps the invariant where the new run state and latch agree. -/
theorem State.Inv.of_same_mem_desc {s t : State} (hs : s.Inv) (hmem : t.mem = s.mem) (hdesc : t.desc = s.desc)
    (hwait : waitingAgrees t.rs t.wn) : t.Inv where
  memory := by rw [hmem]; exact hs.memory
  descriptors d := by rw [State.descOf, hdesc]; exact hs.descriptors d
  waiting := hwait

/-! ## The RUNNING step -/

theorem runningStep_keeps_inv {s t : State} (hs : s.Inv) (hrs : s.rs = .running) (h : runningStep s = .next t) :
    t.Inv := by
  have hfetch : s.fetch.Inv := hs.of_same_mem_desc rfl rfl hs.waiting
  unfold runningStep execFetched at h
  cases hdec : decode s.fetch.ir with
  | ok i =>
    obtain ⟨u, hexec, hkeeps⟩ := exec_keeps i s.fetch
    have hu : u.Inv := (hkeeps hrs).inv hfetch
    simp only [hdec, hexec, Host.Outcome.next.injEq] at h
    subst h
    exact hu.of_same_mem_desc rfl rfl hu.waiting
  | error e =>
    simp only [hdec, Host.Outcome.next.injEq] at h
    subst h
    exact hfetch.of_same_mem_desc rfl rfl hfetch.waiting

/-! ## The wait and boot states, as record updates -/

/-- Spending the budget changes the cycle accumulator alone (R410, R414). -/
theorem State.spendBudget_eq (s : State) : s.spendBudget = { s with cyc := s.runBudget.getD s.cyc } := by
  unfold State.spendBudget
  split
  · next hnone =>
    have hkept : s.runBudget.getD s.cyc = s.cyc := by rw [hnone]; rfl
    rw [hkept]
  · next b hsome =>
    have hspent : s.runBudget.getD s.cyc = b := by rw [hsome]; rfl
    rw [hspent]

theorem State.bootReady_eq (s : State) : s.bootReady = { s with wn := false, trace := s.bootReady.trace } := by
  unfold State.bootReady
  split
  · rfl
  · next hwn =>
    have hclear : s.wn = false := by simpa using hwn
    rw [← hclear]

theorem State.bootWait_eq (s : State) :
    s.bootWait = { s with wn := true, cyc := s.bootWait.cyc, trace := s.bootWait.trace } := by
  unfold State.bootWait
  rw [State.spendBudget_eq]
  split
  · next hwn => rw [← hwn]
  · rfl

theorem State.waitStep_keeps_inv {s : State} (d : Device) (hs : s.Inv) : (s.waitStep d).Inv := by
  unfold State.waitStep
  split
  · rw [State.spendBudget_eq]
    exact hs.of_same_mem_desc rfl rfl hs.waiting
  · exact hs.of_same_mem_desc rfl rfl rfl

theorem State.bootStep0_keeps_inv {s : State} (hs : s.Inv) (hrs : s.rs = .bootRead0) : s.bootStep0.Inv := by
  unfold State.bootStep0
  dsimp only
  split
  · rw [State.bootWait_eq]
    refine hs.of_same_mem_desc rfl rfl ?_
    rw [State.query_rs, hrs]
    trivial
  · rw [State.bootReady_eq]
    exact ⟨hs.memory, Keeps.setDesc_fits s cardReader _ (Keeps.newDesc_fits _ _ _) hs.descriptors, trivial⟩

theorem State.bootStep1_keeps_inv {s : State} (hs : s.Inv) (hrs : s.rs = .bootRead1) : s.bootStep1.Inv := by
  unfold State.bootStep1
  dsimp only
  split
  · rw [State.bootWait_eq]
    refine hs.of_same_mem_desc rfl rfl ?_
    rw [State.query_rs, hrs]
    trivial
  · rw [State.bootReady_eq]
    exact hs.of_same_mem_desc rfl rfl rfl

theorem driverStep_keeps_inv {s t : State} (hs : s.Inv) (h : driverStep s = .next t) : t.Inv := by
  unfold driverStep at h
  split at h
  · next hrs => exact runningStep_keeps_inv hs hrs h
  · cases h; exact hs
  · cases h; exact State.waitStep_keeps_inv _ hs
  · next hrs => cases h; exact State.bootStep0_keeps_inv hs hrs
  · next hrs => cases h; exact State.bootStep1_keeps_inv hs hrs

/-! ## The end of a run transaction -/

/-- A forced transition to HALT leaves the latch clear, whatever was awaited (R411). -/
theorem State.forceHalt_eq (s : State) :
    s.forceHalt = { s with rs := .halt, wn := false, trace := s.forceHalt.trace } := by
  unfold State.forceHalt
  dsimp only
  split
  · split <;> rfl
  · next hwn =>
    have hclear : s.wn = false := by simpa using hwn
    rw [← hclear]

theorem State.stopCheck_keeps_inv {s : State} (hs : s.Inv) : s.stopCheck.Inv := by
  unfold State.stopCheck
  split
  · exact hs
  · split
    · rw [State.forceHalt_eq]
      exact hs.of_same_mem_desc rfl rfl rfl
    · exact hs.of_same_mem_desc rfl rfl hs.waiting

theorem coreStep_keeps_inv {s t : State} (hs : s.Inv) (h : coreStep s = .next t) : t.Inv := by
  unfold coreStep at h
  split at h
  · exact driverStep_keeps_inv hs h
  · cases h
    have hstop := State.stopCheck_keeps_inv hs
    exact hstop.of_same_mem_desc rfl rfl hstop.waiting

/-! ## The device side -/

theorem Keeps.setDesc {s : State} {d : Device} {x : Desc} (hx : (s.descOf d).fits d = true → x.fits d = true) :
    Keeps s (s.setDesc d x) :=
  ⟨id, fun h => Keeps.setDesc_fits s d x (hx (h d)) h, id, rfl, rfl, rfl, rfl, rfl, rfl, rfl, rfl⟩

theorem Keeps.withMem {s : State} {mem : Memory} (hmem : Memory.wf s.mem = true → Memory.wf mem = true) :
    Keeps s { s with mem := mem } :=
  ⟨hmem, id, id, rfl, rfl, rfl, rfl, rfl, rfl, rfl, rfl⟩

/-- A word transfer that counts down still fits its slot, wherever its cursor goes. -/
theorem Keeps.countWords {s : State} {d : Device} {dir : Direction} {n : Nat} {a : Addr}
    (hd : s.descOf d = .words dir n a) (k : Nat) (b : Addr) : Keeps s (s.setDesc d (.words dir (n - k) b)) := by
  apply Keeps.setDesc
  rw [hd]
  simp only [Desc.fits, Bool.and_eq_true, decide_eq_true_eq]
  omega

theorem Keeps.countChars {s : State} {d : Device} {dir : Direction} {n : Nat} {a : Addr} {p : Fin 5} {v : Word}
    (hd : s.descOf d = .chars dir n a p v) (k : Nat) (b : Addr) (q : Fin 5) (w : Word) :
    Keeps s (s.setDesc d (.chars dir (n - k) b q w)) := by
  apply Keeps.setDesc
  rw [hd]
  simp only [Desc.fits, Bool.and_eq_true, decide_eq_true_eq]
  omega

/-- An adapter call writes memory word by word and counts down in its own descriptor; it touches no run state (R380). -/
theorem adapterStep_keeps {d : Device} {c : AdapterCall} {s t : State} (h : adapterStep d c s = .next t) : Keeps s t := by
  unfold adapterStep at h
  dsimp only at h
  split at h
  · cases h
    exact Keeps.emit s _
  · split at h
    · next hd _ =>
      cases h
      exact ((Keeps.countWords hd _ _).trans (Keeps.emit _ _)).trans (Keeps.emit _ _)
    · next hd _ =>
      cases h
      exact ((Keeps.countChars hd _ _ _ _).trans (Keeps.emit _ _)).trans (Keeps.emit _ _)
    · next hd _ =>
      cases h
      exact ((Keeps.withMem (writeWordsTo_wf s.mem _ _)).trans (Keeps.countWords (by exact hd) _ _)).trans (Keeps.emit _ _)
    · next hd _ =>
      cases h
      exact ((Keeps.withMem (writeCharsTo_wf s.mem _ _)).trans (Keeps.countChars (by exact hd) _ _ _ _)).trans (Keeps.emit _ _)
    · cases h

/-! ## The host -/

/-- `boot` changes the run state, and of the rest only the latch and the trace (R408). -/
theorem State.boot_eq (s : State) : s.boot = { s with rs := .bootRead0, wn := s.boot.wn, trace := s.boot.trace } := by
  unfold State.boot
  split
  · split <;> rfl
  · rfl

theorem hostRunStep_keeps_inv {b : Nat} {s t : State} (hs : s.Inv) (h : hostRunStep b s = .next t) : t.Inv := by
  unfold hostRunStep at h
  split at h
  · cases h
    exact hs.of_same_mem_desc rfl rfl hs.waiting
  · cases h

/-! ## Every agent -/

theorem takeTurn_keeps_inv {turn : Turn} {s t : State} (hs : s.Inv) (h : takeTurn turn s = .next t) : t.Inv := by
  cases turn with
  | core => exact coreStep_keeps_inv hs h
  | adapter d c => exact (adapterStep_keeps h).inv hs
  | setBusy d b => cases h; exact hs.of_same_mem_desc rfl rfl hs.waiting
  | setSignals stop => cases h; exact hs.of_same_mem_desc rfl rfl hs.waiting
  | hostReset =>
    cases h
    have hreset : State.reset.Inv := resetMeetsTheInvariant
    exact hreset.of_same_mem_desc rfl rfl hreset.waiting
  | hostBoot => cases h; rw [State.boot_eq]; exact hs.of_same_mem_desc rfl rfl trivial
  | hostRun b => exact hostRunStep_keeps_inv hs h

/-- Settles O8: taking the turn off the schedule keeps the invariant, and so does the turn of every agent. -/
theorem everyStepKeepsTheInvariant : Obligations.EveryStepKeepsTheInvariant := by
  intro s t hs h
  have hpop : s.popTurn.Inv := hs.of_same_mem_desc rfl rfl hs.waiting
  exact takeTurn_keeps_inv hpop h

end Sys2Proof.Machine
end

section
/-! What an execute phase can change (10_state.md R23 to R27, R32, R41, 20_memory.md R61, 47_run_state.md R401), said once
for every instruction: obligations O59 and O60. -/

namespace Sys2Proof.Machine

/-! ## Who writes what -/

/-- The instructions that can change register k (R24). -/
def WritesReg (i : Instr) (k : Reg) : Prop :=
  (∃ m f, i = .ldOf k m f ∨ i = .ldnOf k m f) ∨
  (∃ m, i = .incOf k m ∨ i = .decOf k m ∨ i = .entOf k m ∨ i = .ennOf k m) ∨
  (k = .a ∧ ∃ m f, i = .add m f ∨ i = .sub m f ∨ i = .mul m f ∨ i = .div m f ∨ i = .num m ∨ i = .char m ∨
    i = .sla m ∨ i = .sra m ∨ i = .slax m ∨ i = .srax m ∨ i = .slc m ∨ i = .src m) ∨
  (k = .x ∧ ∃ m f, i = .mul m f ∨ i = .div m f ∨ i = .char m ∨
    i = .slax m ∨ i = .srax m ∨ i = .slc m ∨ i = .src m) ∨
  (k = .i1 ∧ ∃ m f, i = .move m f)

theorem WritesReg.a {i : Instr} (h : ∃ m f, i = .add m f ∨ i = .sub m f ∨ i = .mul m f ∨ i = .div m f ∨ i = .num m ∨
    i = .char m ∨ i = .sla m ∨ i = .sra m ∨ i = .slax m ∨ i = .srax m ∨ i = .slc m ∨ i = .src m) : WritesReg i .a :=
  .inr (.inr (.inl ⟨rfl, h⟩))

theorem WritesReg.x {i : Instr} (h : ∃ m f, i = .mul m f ∨ i = .div m f ∨ i = .char m ∨ i = .slax m ∨ i = .srax m ∨
    i = .slc m ∨ i = .src m) : WritesReg i .x :=
  .inr (.inr (.inr (.inl ⟨rfl, h⟩)))

theorem WritesReg.i1 {i : Instr} (h : ∃ m f, i = .move m f) : WritesReg i .i1 :=
  .inr (.inr (.inr (.inr ⟨rfl, h⟩)))

/-- The instructions that store into memory (R61). -/
def WritesMem (i : Instr) : Prop :=
  (∃ k m f, i = .stOf k m f) ∨ ∃ m f, i = .stj m f ∨ i = .stz m f ∨ i = .move m f

/-- The jumps to M that leave the advanced pc in rJ: every jump but JSJ (R23, R240). -/
def SavingJump (i : Instr) (m : AddrSpec) : Prop :=
  i ∈ [Instr.jmp m, .jov m, .jnov m, .jl m, .je m, .jg m, .jge m, .jne m, .jle m] ∨
  (∃ k, i ∈ [Instr.jnOf k m, .jzOf k m, .jpOf k m, .jnnOf k m, .jnzOf k m, .jnpOf k m]) ∨
  ∃ d : Device, i = .jbus m d.val ∨ i = .jred m d.val

/-- The instruction finds the device `d` it names busy and is rolled back (R352). -/
def RollsBack (i : Instr) (s : State) (d : Device) : Prop :=
  s.busy[d.val] = true ∧ ∃ m, i = .inp m d.val ∨ i = .out m d.val ∨ i = .ioc m d.val

/-- What the execute phase of `i` can make of `s`, one case per kind of effect. Each case names every field that may
change. -/
inductive Effect (i : Instr) (s t : State) : Prop
  | computes (regs : ∀ k, t.reg k ≠ s.reg k → WritesReg i k)
      (rest : t = { s with regs := t.regs, ov := t.ov, ci := t.ci, trace := t.trace })
  | stores (instr : WritesMem i) (regs : ∀ k, t.reg k ≠ s.reg k → WritesReg i k)
      (rest : t = { s with regs := t.regs, mem := t.mem, trace := t.trace })
  | halts (m : AddrSpec) (instr : i = .hlt m) (rest : t = { s with rs := .halt, trace := t.trace })
  | jumps (m : AddrSpec) (instr : SavingJump i m)
      (rest : t = { s with rJ := BitVec.ofNat 12 s.pc.val, pc := s.mAddr m, ov := t.ov, trace := t.trace })
  | jumpsNoSave (m : AddrSpec) (instr : i = .jsj m) (rest : t = { s with pc := s.mAddr m, trace := t.trace })
  | rollsBack (d : Device) (instr : RollsBack i s d)
      (rest : t = { s with pc := s.ppc, rs := .waitDevice d, wn := true, trace := t.trace })
  | transfers (m : AddrSpec) (d : Device) (free : s.busy[d.val] = false) (instr : i = .inp m d.val ∨ i = .out m d.val)
      (rest : t = { s with desc := t.desc, trace := t.trace })

/-! ## The registers a shared operation changes -/

theorem State.setReg_changes {s : State} {j k : Reg} {w : Word} (h : (s.setReg j w).reg k ≠ s.reg k) : k = j := by
  by_contra hne
  rw [State.setReg_reg, if_neg hne] at h
  exact h rfl

theorem State.setReg_setReg_changes {s : State} {i j k : Reg} {v w : Word}
    (h : ((s.setReg i v).setReg j w).reg k ≠ s.reg k) : k = i ∨ k = j := by
  by_contra hne
  rw [not_or] at hne
  rw [State.setReg_reg, if_neg hne.2, State.setReg_reg, if_neg hne.1] at h
  exact h rfl

/-! ## The effects of the shared operations -/

namespace Effect
variable {i : Instr} {s t : State}

/-- Output before an operation does not count: no operation looks at the trace. -/
theorem of_trace {tr : List Event} (h : Effect i { s with trace := tr } t) : Effect i s t := by
  cases h with
  | computes regs rest => exact .computes regs rest
  | stores instr regs rest => exact .stores instr regs rest
  | halts m instr rest => exact .halts m instr rest
  | jumps m instr rest => exact .jumps m instr rest
  | jumpsNoSave m instr rest => exact .jumpsNoSave m instr rest
  | rollsBack d instr rest => exact .rollsBack d instr rest
  | transfers m d free instr rest => exact .transfers m d free instr rest

theorem refl : Effect i s s := .computes (fun _ h => absurd rfl h) rfl

theorem setCI (c : Comparison) : Effect i s (s.setCI c) := .computes (fun _ h => absurd rfl h) rfl

theorem setOV (b : Bool) : Effect i s (s.setOV b) := .computes (fun _ h => absurd rfl h) rfl

theorem setReg {j : Reg} (hj : WritesReg i j) (w : Word) : Effect i s (s.setReg j w) :=
  .computes (fun _ h => State.setReg_changes h ▸ hj) rfl

theorem addTo {j : Reg} (hj : WritesReg i j) (v : Int) : Effect i s (s.addTo j v) :=
  .computes (fun _ h => State.setReg_changes (s := s.noteOverflow _) h ▸ hj) rfl

theorem setAX (ha : WritesReg i .a) (hx : WritesReg i .x) (v w : Word) : Effect i s ((s.setReg .a v).setReg .x w) := by
  refine .computes (fun k h => ?_) rfl
  rcases State.setReg_setReg_changes h with rfl | rfl
  · exact ha
  · exact hx

theorem divide (ha : WritesReg i .a) (hx : WritesReg i .x) (v : Word) : Effect i s (s.divide v) := by
  unfold State.divide
  dsimp only
  split
  · exact setOV true
  · exact setAX ha hx _ _

theorem shift {m : AddrSpec} {body : State → Int → State} (h : ∀ u n, Effect i u (body u n)) :
    Effect i s (s.shift m body) := by
  unfold State.shift
  split
  · exact refl.of_trace
  · exact (h (s.warnAll _) _).of_trace

theorem writeMem (hi : WritesMem i) (a : Addr) (w : Word) : Effect i s (s.writeMem a w) :=
  .stores hi (fun _ h => absurd rfl h) rfl

theorem moveBlock (hi : WritesMem i) (hreg : WritesReg i .i1) (src : Addr) (n : Nat) :
    Effect i s (s.moveBlock src n) := by
  unfold State.moveBlock
  rw [State.moveWords_eq]
  exact .stores hi (fun _ h => State.setReg_changes (s := { s with mem := _ }) h ▸ hreg) rfl

theorem jumpIf {m : AddrSpec} (hi : SavingJump i m) (c : Bool) : Effect i s (s.jumpIf c (s.mAddr m)) := by
  rcases State.jumpIf_cases s c (s.mAddr m) with ⟨-, hjump⟩ | ⟨-, hstay⟩
  · rw [hjump]; exact .jumps m hi rfl
  · rw [hstay]; exact refl

/-- JOV and JNOV clear the latch after the branch. -/
theorem jumpIf_setOV {m : AddrSpec} (hi : SavingJump i m) (c b : Bool) :
    Effect i s ((s.jumpIf c (s.mAddr m)).setOV b) := by
  rcases State.jumpIf_cases s c (s.mAddr m) with ⟨-, hjump⟩ | ⟨-, hstay⟩
  · rw [hjump]; exact .jumps m hi rfl
  · rw [hstay]; exact setOV b

theorem branch {m : AddrSpec} (hi : SavingJump i m) (c : Bool) : Effect i s (s.branch c m) :=
  (jumpIf (s := s.warnAll _) hi c).of_trace

theorem withDevice {f : Nat} {body : State → Device → State} (h : ∀ d : Device, f = d.val → Effect i s (body s d)) :
    Effect i s (s.withDevice f body) := by
  by_cases hf : f < 21
  · have hvalid : s.withDevice f body = body s ⟨f, hf⟩ := State.withDevice_val s ⟨f, hf⟩ body
    rw [hvalid]
    exact h ⟨f, hf⟩ rfl
  · rw [State.withDevice_above s f body (by omega)]
    exact refl.of_trace

theorem branchDevice {m : AddrSpec} {d : Device} (hi : SavingJump i m) (taken : Bool) :
    Effect i s (s.branchDevice m taken d) :=
  (jumpIf (s := (s.warnAll _).query d) hi _).of_trace.of_trace

theorem whenFree {d : Device} {go : State → State} (hi : ∃ m, i = .inp m d.val ∨ i = .out m d.val ∨ i = .ioc m d.val)
    (hgo : s.busy[d.val] = false → Effect i (s.query d) (go (s.query d))) : Effect i s (s.whenFree d go) := by
  cases hbusy : s.isBusy d with
  | true =>
    rw [State.whenFree_busy s d go hbusy]
    exact .rollsBack d ⟨hbusy, hi⟩ rfl
  | false =>
    rw [State.whenFree_free s d go hbusy]
    exact (hgo hbusy).of_trace

theorem control (m : AddrSpec) (d : Device) : Effect i s (s.control m d) := by
  unfold State.control
  dsimp only
  split
  · exact refl.of_trace
  · exact refl.of_trace

theorem startTransfer {m : AddrSpec} {d : Device} (free : s.busy[d.val] = false)
    (hi : i = .inp m d.val ∨ i = .out m d.val) (dir : Direction) : Effect i s (s.startTransfer m dir d) :=
  .transfers m d free hi rfl

end Effect

/-! ## Every instruction -/

/-- Every instruction completes, with one of the effects above. -/
theorem exec_effect (i : Instr) (s : State) : ∃ t, exec i s = .next t ∧ Effect i s t := by
  induction i using Instr.byFamily with
  | fam_ld k m f => exact ⟨_, exec_ldOf k m f s, (Effect.setReg (s := s.warnAll _) (.inl ⟨m, f, .inl rfl⟩) _).of_trace⟩
  | fam_ldn k m f => exact ⟨_, exec_ldnOf k m f s, (Effect.setReg (s := s.warnAll _) (.inl ⟨m, f, .inr rfl⟩) _).of_trace⟩
  | fam_st k m f => exact ⟨_, exec_stOf k m f s, (Effect.writeMem (s := s.warnAll _) (.inl ⟨k, m, f, rfl⟩) _ _).of_trace⟩
  | fam_cmp k m f => exact ⟨_, exec_cmpOf k m f s, (Effect.setCI (s := s.warnAll _) _).of_trace⟩
  | fam_inc k m => exact ⟨_, exec_incOf k m s, (Effect.addTo (s := s.warnAll _) (.inr (.inl ⟨m, by simp⟩)) _).of_trace⟩
  | fam_dec k m => exact ⟨_, exec_decOf k m s, (Effect.addTo (s := s.warnAll _) (.inr (.inl ⟨m, by simp⟩)) _).of_trace⟩
  | fam_ent k m => exact ⟨_, exec_entOf k m s, (Effect.setReg (s := s.warnAll _) (.inr (.inl ⟨m, by simp⟩)) _).of_trace⟩
  | fam_enn k m => exact ⟨_, exec_ennOf k m s, (Effect.setReg (s := s.warnAll _) (.inr (.inl ⟨m, by simp⟩)) _).of_trace⟩
  | fam_jn k m => exact ⟨_, exec_jnOf k m s, Effect.branch (.inr (.inl ⟨k, by simp⟩)) _⟩
  | fam_jz k m => exact ⟨_, exec_jzOf k m s, Effect.branch (.inr (.inl ⟨k, by simp⟩)) _⟩
  | fam_jp k m => exact ⟨_, exec_jpOf k m s, Effect.branch (.inr (.inl ⟨k, by simp⟩)) _⟩
  | fam_jnn k m => exact ⟨_, exec_jnnOf k m s, Effect.branch (.inr (.inl ⟨k, by simp⟩)) _⟩
  | fam_jnz k m => exact ⟨_, exec_jnzOf k m s, Effect.branch (.inr (.inl ⟨k, by simp⟩)) _⟩
  | fam_jnp k m => exact ⟨_, exec_jnpOf k m s, Effect.branch (.inr (.inl ⟨k, by simp⟩)) _⟩
  | one_nop m f => exact ⟨_, rfl, Effect.refl⟩
  | one_add m f => exact ⟨_, rfl, (Effect.addTo (s := s.warnAll _) (.a ⟨m, f, by simp⟩) _).of_trace⟩
  | one_sub m f => exact ⟨_, rfl, (Effect.addTo (s := s.warnAll _) (.a ⟨m, f, by simp⟩) _).of_trace⟩
  | one_mul m f => exact ⟨_, rfl, (Effect.setAX (s := s.warnAll _) (.a ⟨m, f, by simp⟩) (.x ⟨m, f, by simp⟩) _ _).of_trace⟩
  | one_div m f => exact ⟨_, rfl, (Effect.divide (s := s.warnAll _) (.a ⟨m, f, by simp⟩) (.x ⟨m, f, by simp⟩) _).of_trace⟩
  | one_num m => exact ⟨_, rfl, Effect.setReg (.a ⟨m, 0, by simp⟩) _⟩
  | one_char m => exact ⟨_, rfl, Effect.setAX (.a ⟨m, 0, by simp⟩) (.x ⟨m, 0, by simp⟩) _ _⟩
  | one_hlt m => exact ⟨_, rfl, .halts m rfl rfl⟩
  | one_sla m => exact ⟨_, rfl, Effect.shift fun _ _ => .setReg (.a ⟨m, 0, by simp⟩) _⟩
  | one_sra m => exact ⟨_, rfl, Effect.shift fun _ _ => .setReg (.a ⟨m, 0, by simp⟩) _⟩
  | one_slax m => exact ⟨_, rfl, Effect.shift fun _ _ => .setAX (.a ⟨m, 0, by simp⟩) (.x ⟨m, 0, by simp⟩) _ _⟩
  | one_srax m => exact ⟨_, rfl, Effect.shift fun _ _ => .setAX (.a ⟨m, 0, by simp⟩) (.x ⟨m, 0, by simp⟩) _ _⟩
  | one_slc m => exact ⟨_, rfl, Effect.shift fun _ _ => .setAX (.a ⟨m, 0, by simp⟩) (.x ⟨m, 0, by simp⟩) _ _⟩
  | one_src m => exact ⟨_, rfl, Effect.shift fun _ _ => .setAX (.a ⟨m, 0, by simp⟩) (.x ⟨m, 0, by simp⟩) _ _⟩
  | one_move m f =>
    refine ⟨_, rfl, ?_⟩
    split
    · exact .refl
    · split
      · exact Effect.refl.of_trace
      · exact (Effect.moveBlock (s := s.warnAll _) (.inr ⟨m, f, by simp⟩) (.i1 ⟨m, f, rfl⟩) _ _).of_trace
  | one_stj m f => exact ⟨_, rfl, (Effect.writeMem (s := s.warnAll _) (.inr ⟨m, f, by simp⟩) _ _).of_trace⟩
  | one_stz m f => exact ⟨_, rfl, (Effect.writeMem (s := s.warnAll _) (.inr ⟨m, f, by simp⟩) _ _).of_trace⟩
  | one_jbus m f =>
    exact ⟨_, rfl, .withDevice fun d hd => .branchDevice (.inr (.inr ⟨d, by simp [hd]⟩)) true⟩
  | one_ioc m f =>
    exact ⟨_, rfl, .withDevice fun d hd => .whenFree ⟨m, by simp [hd]⟩ fun _ => .control m d⟩
  | one_inp m f =>
    refine ⟨_, rfl, .withDevice fun d hd => .whenFree ⟨m, by simp [hd]⟩ fun free => ?_⟩
    exact Effect.startTransfer (s := s.query d) (m := m) free (.inl (by rw [hd])) .input
  | one_out m f =>
    refine ⟨_, rfl, .withDevice fun d hd => .whenFree ⟨m, by simp [hd]⟩ fun free => ?_⟩
    exact Effect.startTransfer (s := s.query d) (m := m) free (.inr (by rw [hd])) .output
  | one_jred m f =>
    exact ⟨_, rfl, .withDevice fun d hd => .branchDevice (.inr (.inr ⟨d, by simp [hd]⟩)) false⟩
  | one_jmp m => exact ⟨_, rfl, .branch (.inl (by simp)) _⟩
  | one_jsj m => exact ⟨_, rfl, .jumpsNoSave m rfl rfl⟩
  | one_jov m => exact ⟨_, rfl, (Effect.jumpIf_setOV (s := s.warnAll _) (.inl (by simp)) _ false).of_trace⟩
  | one_jnov m => exact ⟨_, rfl, (Effect.jumpIf_setOV (s := s.warnAll _) (.inl (by simp)) _ false).of_trace⟩
  | one_jl m => exact ⟨_, rfl, .branch (.inl (by simp)) _⟩
  | one_je m => exact ⟨_, rfl, .branch (.inl (by simp)) _⟩
  | one_jg m => exact ⟨_, rfl, .branch (.inl (by simp)) _⟩
  | one_jge m => exact ⟨_, rfl, .branch (.inl (by simp)) _⟩
  | one_jne m => exact ⟨_, rfl, .branch (.inl (by simp)) _⟩
  | one_jle m => exact ⟨_, rfl, .branch (.inl (by simp)) _⟩

theorem effect_of_exec {i : Instr} {s t : State} (h : exec i s = .next t) : Effect i s t := by
  obtain ⟨u, hu, heffect⟩ := exec_effect i s
  rw [hu] at h
  cases h
  exact heffect

/-- Settles O59: only two kinds of effect change the register file, and each comes with who writes it. -/
theorem registersChangeOnlyByTheirWriters : Obligations.RegistersChangeOnlyByTheirWriters := by
  intro i s t k hexec hchange
  cases effect_of_exec hexec with
  | computes regs _ => exact regs k hchange
  | stores _ regs _ => exact regs k hchange
  | halts _ _ rest | jumps _ _ rest | jumpsNoSave _ _ rest | rollsBack _ _ rest | transfers _ _ _ _ rest =>
    rw [rest] at hchange
    exact absurd rfl hchange

/-- Settles O60: in each kind of effect, the fields the effect writes come with their instruction, and the others are read
off the record update. -/
theorem executionChangesTheRestOnlyWhereTheSpecSays : Obligations.ExecutionChangesTheRestOnlyWhereTheSpecSays := by
  intro i s t hexec savingJump rollback
  cases effect_of_exec hexec with
  | computes _ rest =>
    rw [rest]
    simp
  | stores instr _ rest =>
    rw [rest]
    exact ⟨fun _ => instr, by simp⟩
  | halts m instr rest =>
    rw [rest]
    exact ⟨by simp, fun _ => .inl ⟨m, instr, rfl⟩, by simp⟩
  | jumps m instr rest =>
    rw [rest]
    exact ⟨by simp, by simp, by simp, by simp, fun _ => .inl ⟨m, .inl instr, rfl⟩, fun _ => ⟨m, instr, rfl, rfl⟩, by simp⟩
  | jumpsNoSave m instr rest =>
    rw [rest]
    exact ⟨by simp, by simp, by simp, by simp, fun _ => .inl ⟨m, .inr instr, rfl⟩, by simp⟩
  | rollsBack d instr rest =>
    rw [rest]
    exact ⟨by simp, fun _ => .inr ⟨d, instr, rfl⟩, fun _ => ⟨rfl, d, instr, rfl⟩, by simp,
      fun _ => .inr ⟨d, instr, rfl, rfl⟩, by simp⟩
  | transfers m d free instr rest =>
    rw [rest]
    exact ⟨by simp, by simp, by simp, fun _ => ⟨m, d, free, instr⟩, by simp⟩

end Sys2Proof.Machine
end

section
/-! Who reads and writes the two flags (10_state.md R28, R29): obligations O57 and O58. Writing a flag before an instruction
that does not use it comes to the same as writing it after. -/

namespace Sys2Proof.Machine

/-- The instructions of R28. -/
def UsesOV (i : Instr) : Prop :=
  (∃ m f, i = .add m f ∨ i = .sub m f ∨ i = .div m f ∨ i = .jov m ∨ i = .jnov m) ∨ ∃ k m, i = .incOf k m ∨ i = .decOf k m

/-- The instructions of R29. -/
def UsesCI (i : Instr) : Prop :=
  (∃ m, i = .jl m ∨ i = .je m ∨ i = .jg m ∨ i = .jge m ∨ i = .jne m ∨ i = .jle m) ∨ ∃ k m f, i = .cmpOf k m f

/-- A write of one of the two flags. -/
inductive FlagWrite : (State → State) → Prop
  | ov (b : Bool) : FlagWrite (·.setOV b)
  | ci (c : Comparison) : FlagWrite (·.setCI c)

/-- A write of a flag that the instruction does not use. -/
inductive UnusedFlagWrite (i : Instr) : (State → State) → Prop
  | ov (b : Bool) (unused : ¬ UsesOV i) : UnusedFlagWrite i (·.setOV b)
  | ci (c : Comparison) (unused : ¬ UsesCI i) : UnusedFlagWrite i (·.setCI c)

/-! ## The shared operations use no flag -/

namespace FlagWrite
variable {φ : State → State} (h : FlagWrite φ) (s : State)
include h

theorem reg (k : Reg) : (φ s).reg k = s.reg k := by cases h <;> rfl

theorem mRaw (m : AddrSpec) : (φ s).mRaw m = s.mRaw m := by cases h <;> rfl

theorem operand (m : AddrSpec) (f : Nat) : (φ s).operand m f = s.operand m f := by cases h <;> rfl

theorem operandWarnings (m : AddrSpec) (f : Nat) : (φ s).operandWarnings m f = s.operandWarnings m f := by
  cases h <;> rfl

theorem moveWarnings (m : AddrSpec) : (φ s).moveWarnings m = s.moveWarnings m := by cases h <;> rfl

theorem isBusy (d : Device) : (φ s).isBusy d = s.isBusy d := by cases h <;> rfl

theorem warnAll (ws : List Warning) : (φ s).warnAll ws = φ (s.warnAll ws) := by cases h <;> rfl

theorem emit (e : Event) : (φ s).emit e = φ (s.emit e) := by cases h <;> rfl

theorem query (d : Device) : (φ s).query d = φ (s.query d) := by cases h <;> rfl

theorem loadField (k : Reg) (m : AddrSpec) (f : Nat) : (φ s).loadField k m f = φ (s.loadField k m f) := by
  cases h <;> rfl

theorem loadNegField (k : Reg) (m : AddrSpec) (f : Nat) : (φ s).loadNegField k m f = φ (s.loadNegField k m f) := by
  cases h <;> rfl

theorem storeField (w : Word) (m : AddrSpec) (f : Nat) : (φ s).storeField w m f = φ (s.storeField w m f) := by
  cases h <;> rfl

theorem enter (k : Reg) (m : AddrSpec) (w : Word) : (φ s).enter k m w = φ (s.enter k m w) := by cases h <;> rfl

theorem multiply (w : Word) : (φ s).multiply w = φ (s.multiply w) := by cases h <;> rfl

theorem setAMag (n : Nat) : (φ s).setAMag n = φ (s.setAMag n) := by cases h <;> rfl

theorem setPair (n : Nat) : (φ s).setPair n = φ (s.setPair n) := by cases h <;> rfl

theorem pair : (φ s).pair = s.pair := by cases h <;> rfl

theorem toBinary : (φ s).toBinary = φ s.toBinary := by cases h <;> rfl

theorem toDecimal : (φ s).toDecimal = φ s.toDecimal := by cases h <;> rfl

theorem jumpIf (c : Bool) (a : Addr) : (φ s).jumpIf c a = φ (s.jumpIf c a) := by
  cases c
  · rfl
  · cases h <;> rfl

theorem branch (c : Bool) (m : AddrSpec) : (φ s).branch c m = φ (s.branch c m) := by
  cases c <;> cases h <;> rfl

theorem shift (m : AddrSpec) {body : State → Int → State} (hbody : ∀ u n, body (φ u) n = φ (body u n)) :
    (φ s).shift m body = φ (s.shift m body) := by
  unfold State.shift
  rw [h.mRaw]
  split
  · exact h.warnAll s _
  · rw [h.warnAll, hbody]

theorem shiftLeftA (n : Int) : (φ s).shiftLeftA n = φ (s.shiftLeftA n) := by
  rw [State.shiftLeftA, h.reg, h.setAMag, State.shiftLeftA]

theorem shiftRightA (n : Int) : (φ s).shiftRightA n = φ (s.shiftRightA n) := by
  rw [State.shiftRightA, h.reg, h.setAMag, State.shiftRightA]

theorem shiftLeftPair (n : Int) : (φ s).shiftLeftPair n = φ (s.shiftLeftPair n) := by
  rw [State.shiftLeftPair, h.pair, h.setPair, State.shiftLeftPair]

theorem shiftRightPair (n : Int) : (φ s).shiftRightPair n = φ (s.shiftRightPair n) := by
  rw [State.shiftRightPair, h.pair, h.setPair, State.shiftRightPair]

theorem rotateLeftPair (n : Int) : (φ s).rotateLeftPair n = φ (s.rotateLeftPair n) := by
  rw [State.rotateLeftPair, h.pair, h.setPair, State.rotateLeftPair]

theorem rotateRightPair (n : Int) : (φ s).rotateRightPair n = φ (s.rotateRightPair n) := by
  rw [State.rotateRightPair, h.pair, h.setPair, State.rotateRightPair]

theorem moveWords (src dst : Addr) (n : Nat) : (φ s).moveWords src dst n = φ (s.moveWords src dst n) := by
  induction n generalizing s src dst with
  | zero => rfl
  | succ n ih =>
    have hword : (φ s).writeMem dst ((φ s).readMem src) = φ (s.writeMem dst (s.readMem src)) := by cases h <;> rfl
    rw [State.moveWords, hword, ih, State.moveWords]

theorem moveBlock (src : Addr) (n : Nat) : (φ s).moveBlock src n = φ (s.moveBlock src n) := by
  have hdest : (φ s).moveDest = s.moveDest := by cases h <;> rfl
  rw [State.moveBlock, hdest, h.moveWords, State.moveBlock]
  cases h <;> rfl

theorem withDevice (f : Nat) {body : State → Device → State} (hbody : ∀ d, body (φ s) d = φ (body s d)) :
    (φ s).withDevice f body = φ (s.withDevice f body) := by
  unfold State.withDevice
  split
  · exact h.warnAll s _
  · exact hbody _

theorem branchDevice (m : AddrSpec) (taken : Bool) (d : Device) :
    (φ s).branchDevice m taken d = φ (s.branchDevice m taken d) := by
  unfold State.branchDevice
  rw [h.isBusy, ← h.jumpIf]
  cases h <;> rfl

theorem whenFree (d : Device) {go : State → State} (hgo : ∀ u, go (φ u) = φ (go u)) :
    (φ s).whenFree d go = φ (s.whenFree d go) := by
  unfold State.whenFree
  rw [h.isBusy, h.query]
  split
  · cases h <;> rfl
  · exact hgo _

theorem control (m : AddrSpec) (d : Device) : (φ s).control m d = φ (s.control m d) := by
  unfold State.control
  rw [h.mRaw]
  dsimp only
  split
  · rw [h.warnAll, h.emit]
  · rw [h.warnAll, h.warnAll]

theorem startTransfer (m : AddrSpec) (dir : Direction) (d : Device) :
    (φ s).startTransfer m dir d = φ (s.startTransfer m dir d) := by
  cases h <;> rfl

end FlagWrite

theorem UnusedFlagWrite.flagWrite {i : Instr} {φ : State → State} (h : UnusedFlagWrite i φ) : FlagWrite φ := by
  cases h with
  | ov b _ => exact .ov b
  | ci c _ => exact .ci c

theorem UnusedFlagWrite.writes_ci {i : Instr} {φ : State → State} (h : UnusedFlagWrite i φ) (hi : UsesOV i) :
    ∃ c, φ = (·.setCI c) := by
  cases h with
  | ov b unused => exact absurd hi unused
  | ci c _ => exact ⟨c, rfl⟩

theorem UnusedFlagWrite.writes_ov {i : Instr} {φ : State → State} (h : UnusedFlagWrite i φ) (hi : UsesCI i) :
    ∃ b, φ = (·.setOV b) := by
  cases h with
  | ov b _ => exact ⟨b, rfl⟩
  | ci c unused => exact absurd hi unused

theorem State.divide_setCI (s : State) (c : Comparison) (v : Word) : (s.setCI c).divide v = (s.divide v).setCI c := by
  by_cases h : v.magnitude = 0 ∨ v.magnitude ≤ (s.reg .a).magnitude
  · rw [State.divide_overflow (s.setCI c) v h, State.divide_overflow s v h]
    rfl
  · have hlt : (s.reg .a).magnitude < v.magnitude := by omega
    rw [State.divide_fits (s.setCI c) v hlt, State.divide_fits s v hlt]
    rfl

/-! ## Every instruction -/

/-- An instruction neither reads nor writes a flag it does not use: a write of the flag before it comes to the same as the
write after it. -/
theorem exec_unusedFlagWrite {i : Instr} {φ : State → State} (hφ : UnusedFlagWrite i φ) (s : State) :
    ∃ t, exec i s = .next t ∧ exec i (φ s) = .next (φ t) := by
  have h := hφ.flagWrite
  induction i using Instr.byFamily with
  | fam_ld k m f => exact ⟨_, exec_ldOf k m f s, by rw [exec_ldOf, h.loadField]⟩
  | fam_ldn k m f => exact ⟨_, exec_ldnOf k m f s, by rw [exec_ldnOf, h.loadNegField]⟩
  | fam_st k m f => exact ⟨_, exec_stOf k m f s, by rw [exec_stOf, h.reg, h.storeField]⟩
  | fam_cmp k m f =>
    obtain ⟨b, rfl⟩ := hφ.writes_ov (.inr ⟨k, m, f, rfl⟩)
    exact ⟨_, exec_cmpOf k m f s, exec_cmpOf k m f _⟩
  | fam_inc k m =>
    obtain ⟨c, rfl⟩ := hφ.writes_ci (.inr ⟨k, m, .inl rfl⟩)
    exact ⟨_, exec_incOf k m s, exec_incOf k m _⟩
  | fam_dec k m =>
    obtain ⟨c, rfl⟩ := hφ.writes_ci (.inr ⟨k, m, .inr rfl⟩)
    exact ⟨_, exec_decOf k m s, exec_decOf k m _⟩
  | fam_ent k m => exact ⟨_, exec_entOf k m s, by rw [exec_entOf, h.mRaw, h.enter]⟩
  | fam_enn k m => exact ⟨_, exec_ennOf k m s, by rw [exec_ennOf, h.mRaw, h.enter]⟩
  | fam_jn k m => exact ⟨_, exec_jnOf k m s, by rw [exec_jnOf, h.reg, h.branch]⟩
  | fam_jz k m => exact ⟨_, exec_jzOf k m s, by rw [exec_jzOf, h.reg, h.branch]⟩
  | fam_jp k m => exact ⟨_, exec_jpOf k m s, by rw [exec_jpOf, h.reg, h.branch]⟩
  | fam_jnn k m => exact ⟨_, exec_jnnOf k m s, by rw [exec_jnnOf, h.reg, h.branch]⟩
  | fam_jnz k m => exact ⟨_, exec_jnzOf k m s, by rw [exec_jnzOf, h.reg, h.branch]⟩
  | fam_jnp k m => exact ⟨_, exec_jnpOf k m s, by rw [exec_jnpOf, h.reg, h.branch]⟩
  | one_nop m f => exact ⟨_, rfl, rfl⟩
  | one_add m f =>
    obtain ⟨c, rfl⟩ := hφ.writes_ci (.inl ⟨m, f, by simp⟩)
    exact ⟨_, rfl, rfl⟩
  | one_sub m f =>
    obtain ⟨c, rfl⟩ := hφ.writes_ci (.inl ⟨m, f, by simp⟩)
    exact ⟨_, rfl, rfl⟩
  | one_mul m f =>
    refine ⟨_, rfl, congrArg Host.Outcome.next ?_⟩
    rw [h.operand, h.operandWarnings, h.warnAll, h.multiply]
  | one_div m f =>
    obtain ⟨c, rfl⟩ := hφ.writes_ci (.inl ⟨m, f, by simp⟩)
    exact ⟨_, rfl, congrArg _ (State.divide_setCI (s.warnAll _) c _)⟩
  | one_num m => exact ⟨_, rfl, congrArg _ (h.toBinary s)⟩
  | one_char m => exact ⟨_, rfl, congrArg _ (h.toDecimal s)⟩
  | one_hlt m => exact ⟨_, rfl, by cases h <;> rfl⟩
  | one_sla m => exact ⟨_, rfl, congrArg _ (h.shift s m h.shiftLeftA)⟩
  | one_sra m => exact ⟨_, rfl, congrArg _ (h.shift s m h.shiftRightA)⟩
  | one_slax m => exact ⟨_, rfl, congrArg _ (h.shift s m h.shiftLeftPair)⟩
  | one_srax m => exact ⟨_, rfl, congrArg _ (h.shift s m h.shiftRightPair)⟩
  | one_slc m => exact ⟨_, rfl, congrArg _ (h.shift s m h.rotateLeftPair)⟩
  | one_src m => exact ⟨_, rfl, congrArg _ (h.shift s m h.rotateRightPair)⟩
  | one_move m f =>
    refine ⟨_, rfl, congrArg Host.Outcome.next ?_⟩
    rw [h.mRaw, h.moveWarnings]
    split
    · rfl
    · split
      · exact h.warnAll s _
      · rw [h.warnAll, h.moveBlock]
  | one_stj m f => exact ⟨_, rfl, by cases h <;> rfl⟩
  | one_stz m f => exact ⟨_, rfl, congrArg _ (h.storeField s _ m f)⟩
  | one_jbus m f => exact ⟨_, rfl, congrArg _ (h.withDevice s f fun d => h.branchDevice s m true d)⟩
  | one_ioc m f =>
    exact ⟨_, rfl, congrArg _ (h.withDevice s f fun d => h.whenFree s d fun u => h.control u m d)⟩
  | one_inp m f =>
    exact ⟨_, rfl, congrArg _ (h.withDevice s f fun d => h.whenFree s d fun u => h.startTransfer u m .input d)⟩
  | one_out m f =>
    exact ⟨_, rfl, congrArg _ (h.withDevice s f fun d => h.whenFree s d fun u => h.startTransfer u m .output d)⟩
  | one_jred m f => exact ⟨_, rfl, congrArg _ (h.withDevice s f fun d => h.branchDevice s m false d)⟩
  | one_jmp m => exact ⟨_, rfl, congrArg _ (h.branch s true m)⟩
  | one_jsj m => exact ⟨_, rfl, by cases h <;> rfl⟩
  | one_jov m =>
    obtain ⟨c, rfl⟩ := hφ.writes_ci (.inl ⟨m, 0, by simp⟩)
    exact ⟨_, rfl, congrArg (fun u : State => Host.Outcome.next (u.setOV false)) (h.branch s s.ov m)⟩
  | one_jnov m =>
    obtain ⟨c, rfl⟩ := hφ.writes_ci (.inl ⟨m, 0, by simp⟩)
    exact ⟨_, rfl, congrArg (fun u : State => Host.Outcome.next (u.setOV false)) (h.branch s (!s.ov) m)⟩
  | one_jl m =>
    obtain ⟨b, rfl⟩ := hφ.writes_ov (.inl ⟨m, by simp⟩)
    exact ⟨_, rfl, congrArg _ (h.branch s (decide (s.ci = .less)) m)⟩
  | one_je m =>
    obtain ⟨b, rfl⟩ := hφ.writes_ov (.inl ⟨m, by simp⟩)
    exact ⟨_, rfl, congrArg _ (h.branch s (decide (s.ci = .equal)) m)⟩
  | one_jg m =>
    obtain ⟨b, rfl⟩ := hφ.writes_ov (.inl ⟨m, by simp⟩)
    exact ⟨_, rfl, congrArg _ (h.branch s (decide (s.ci = .greater)) m)⟩
  | one_jge m =>
    obtain ⟨b, rfl⟩ := hφ.writes_ov (.inl ⟨m, by simp⟩)
    exact ⟨_, rfl, congrArg _ (h.branch s (decide (s.ci ≠ .less)) m)⟩
  | one_jne m =>
    obtain ⟨b, rfl⟩ := hφ.writes_ov (.inl ⟨m, by simp⟩)
    exact ⟨_, rfl, congrArg _ (h.branch s (decide (s.ci ≠ .equal)) m)⟩
  | one_jle m =>
    obtain ⟨b, rfl⟩ := hφ.writes_ov (.inl ⟨m, by simp⟩)
    exact ⟨_, rfl, congrArg _ (h.branch s (decide (s.ci ≠ .greater)) m)⟩

/-! ## The overflow latch -/

theorem exec_setOV {i : Instr} (unused : ¬ UsesOV i) (s : State) (b : Bool) :
    ∃ t, exec i s = .next t ∧ exec i (s.setOV b) = .next (t.setOV b) :=
  exec_unusedFlagWrite (.ov b unused) s

theorem State.divide_ov (s : State) (v : Word) :
    (s.divide v).ov = (s.ov || decide (v.magnitude = 0 ∨ v.magnitude ≤ (s.reg .a).magnitude)) := by
  by_cases h : v.magnitude = 0 ∨ v.magnitude ≤ (s.reg .a).magnitude
  · rw [State.divide_overflow s v h, decide_eq_true h, Bool.or_true]
  · rw [State.divide_fits s v (by omega), decide_eq_false h, Bool.or_false]

/-- Settles O57: what each of the seven makes of the latch, and no other instruction uses it. -/
theorem overflowLatchIsStickyAndPrivateToItsInstructions :
    Obligations.OverflowLatchIsStickyAndPrivateToItsInstructions := by
  refine ⟨fun m f s => ⟨?_, ?_, ?_, ?_, ?_, ?_, ?_⟩, fun i s b hone hfam => ?_⟩
  · intro t h; cases h; rfl
  · intro t h; cases h; rfl
  · intro t h; cases h; exact State.divide_ov _ _
  · intro k t h; rw [exec_incOf] at h; cases h; rfl
  · intro k t h; rw [exec_decOf] at h; cases h; rfl
  · intro t h; cases h; rfl
  · intro t h; cases h; rfl
  · apply exec_setOV
    rintro (⟨m, f, hi⟩ | ⟨k, m, hi⟩)
    · have := hone m f
      tauto
    · have := hfam k m
      tauto

/-! ## The comparison indicator -/

theorem exec_setCI {i : Instr} (unused : ¬ UsesCI i) (s : State) (c : Comparison) :
    ∃ t, exec i s = .next t ∧ exec i (s.setCI c) = .next (t.setCI c) :=
  exec_unusedFlagWrite (.ci c unused) s

/-- An instruction that does not use the indicator leaves it as it is: writing its own value changes nothing. -/
theorem exec_ci_of_unused {i : Instr} {s t : State} (unused : ¬ UsesCI i) (h : exec i s = .next t) : t.ci = s.ci := by
  obtain ⟨u, -, hset⟩ := exec_setCI unused s s.ci
  have hsame : s.setCI s.ci = s := rfl
  rw [hsame, h] at hset
  cases hset
  rfl

theorem State.branch_ci (s : State) (c : Bool) (m : AddrSpec) : (s.branch c m).ci = s.ci := by
  cases c <;> rfl

/-- Settles O58: a branch leaves the indicator alone, a compare does not look at it, and no other instruction uses it. -/
theorem comparisonIndicatorIsWrittenByComparesAndReadByBranches :
    Obligations.ComparisonIndicatorIsWrittenByComparesAndReadByBranches := by
  refine ⟨fun i s t hcmp h => ?_, fun k m f s c => ?_, fun i s c hbranch hcmp => ?_⟩
  · by_cases hi : UsesCI i
    · obtain ⟨m, hbranch⟩ | ⟨k, m, f, hi⟩ := hi
      · rcases hbranch with rfl | rfl | rfl | rfl | rfl | rfl <;> cases h <;> exact State.branch_ci s _ m
      · exact absurd hi (hcmp k m f)
    · exact exec_ci_of_unused hi h
  · rw [exec_cmpOf, exec_cmpOf]
    rfl
  · apply exec_setCI
    rintro (⟨m, hi⟩ | ⟨k, m, f, hi⟩)
    · have := hbranch m
      tauto
    · exact hcmp k m f hi

end Sys2Proof.Machine
end

section
/-! The encoder and the decoder agree (30_encoding.md R90, R100, R104): obligations O1, O2, O3 and O4. The
opcode map is walked once by instruction (`Instr.exists_row`) and once by opcode (`row_or_rejected`). -/

namespace Sys2Proof

/-! ## The fields of an instruction word (R90) -/

theorem AddrSpec.fits_iff (m : AddrSpec) : m.fits = true ↔ m.aa < 4096 ∧ m.idx < 64 := by
  simp [AddrSpec.fits]

theorem opcodeOf_lt (w : Word) : opcodeOf w < 64 := Nat.mod_lt _ (by decide)

theorem modifierOf_lt (w : Word) : modifierOf w < 64 := Nat.mod_lt _ (by decide)

theorem addrSpecOf_fits (w : Word) : (addrSpecOf w).fits = true := by
  rw [AddrSpec.fits_iff]
  have hmag := w.mag.isLt
  simp only [addrSpecOf]
  omega

@[simp] theorem assemble_neg (m : AddrSpec) (f c : Nat) : (assemble m f c).neg = m.neg := rfl

@[simp] theorem addrSpecOf_neg (w : Word) : (addrSpecOf w).neg = w.neg := rfl

/-- Fields that fit lie side by side in the magnitude. -/
theorem assemble_magnitude {m : AddrSpec} {f c : Nat} (hm : m.fits = true) (hf : f < 64) (hc : c < 64) :
    (assemble m f c).mag.toNat = m.aa * 2 ^ 18 + m.idx * 2 ^ 12 + f * 2 ^ 6 + c := by
  obtain ⟨haa, hidx⟩ := m.fits_iff.mp hm
  rw [assemble, BitVec.toNat_ofNat, Nat.mod_eq_of_lt (by omega)]

/-- Fields that fit are read back from the word they are put into. -/
theorem decode_assemble {m : AddrSpec} {f c : Nat} (hm : m.fits = true) (hf : f < 64) (hc : c < 64) :
    decode (assemble m f c) = decodeFields c f m := by
  have hmag := assemble_magnitude hm hf hc
  obtain ⟨haa, hidx⟩ := m.fits_iff.mp hm
  have hopcode : opcodeOf (assemble m f c) = c := by rw [opcodeOf, hmag]; omega
  have hmodifier : modifierOf (assemble m f c) = f := by rw [modifierOf, hmag]; omega
  have hplace : addrSpecOf (assemble m f c) = m := by
    have haddress : (assemble m f c).mag.toNat / 2 ^ 18 = m.aa := by rw [hmag]; omega
    have hindex : (assemble m f c).mag.toNat / 2 ^ 12 % 64 = m.idx := by rw [hmag]; omega
    rw [addrSpecOf, assemble_neg, haddress, hindex]
  rw [decode, hopcode, hmodifier, hplace]

/-- A word is put together from its fields: they cover the magnitude. -/
theorem assemble_fields (w : Word) : assemble (addrSpecOf w) (modifierOf w) (opcodeOf w) = w := by
  have hneg : (assemble (addrSpecOf w) (modifierOf w) (opcodeOf w)).neg = w.neg := by
    rw [assemble_neg, addrSpecOf_neg]
  have hmag : (assemble (addrSpecOf w) (modifierOf w) (opcodeOf w)).magnitude = w.magnitude := by
    rw [Word.magnitude, assemble_magnitude (addrSpecOf_fits w) (modifierOf_lt w) (opcodeOf_lt w)]
    simp only [addrSpecOf, modifierOf, opcodeOf, Word.magnitude]
    omega
  exact Word.ext_magnitude _ _ hneg hmag

/-! ## The rows of the opcode map (R100) -/

/-- The pairs (C, F) of no row of R100: the unsupported sub-operations of R104. -/
def Unsupported (c f : Nat) : Prop :=
  (c = 5 ∧ 3 ≤ f) ∨ (c = 6 ∧ 6 ≤ f) ∨ (c = 39 ∧ 10 ≤ f) ∨ (40 ≤ c ∧ c ≤ 47 ∧ 6 ≤ f) ∨ (48 ≤ c ∧ c ≤ 55 ∧ 4 ≤ f)

/-- `i` is the instruction of a row of R100, with opcode `c`, modifier `f` and address part `m`: the encoder writes these
fields and the decoder reads `i` from them. For a concrete row each part is read off the tables of the model. -/
structure IsRow (c f : Nat) (m : AddrSpec) (i : Instr) : Prop where
  fits_eq : i.fits = (m.fits && decide (f < 64)) := by rfl
  encode_eq : encode i = assemble m f c := by rfl
  decodeFields_eq : decodeFields c f m = .ok i := by rfl
  opcode_lt : c < 64 := by decide
  supported : ¬ Unsupported c f := by simp [Unsupported, Reg.num]

/-- The decoder rejects opcode `c` with modifier `f`, and R100 has no row for them. -/
structure IsRejected (c f : Nat) (m : AddrSpec) : Prop where
  decodeFields_eq : decodeFields c f m = .error (.unsupported c f) := by rfl
  unsupported : Unsupported c f := by simp [Unsupported, Reg.num]

/-- An instruction is well formed exactly when the fields of its row fit. -/
theorem IsRow.wellFormed_iff {c f : Nat} {m : AddrSpec} {i : Instr} (row : IsRow c f m i) :
    WellFormed i ↔ m.fits = true ∧ f < 64 := by
  rw [WellFormed, row.fits_eq, Bool.and_eq_true, decide_eq_true_eq]

/-! ### The rows by register number, C mod 8 -/

section Families
variable (k : Reg) (m : AddrSpec) (f : Nat)

theorem isRow_ldOf : IsRow (8 + k.num) f m (.ldOf k m f) := by cases k <;> exact {}
theorem isRow_ldnOf : IsRow (16 + k.num) f m (.ldnOf k m f) := by cases k <;> exact {}
theorem isRow_stOf : IsRow (24 + k.num) f m (.stOf k m f) := by cases k <;> exact {}
theorem isRow_jnOf : IsRow (40 + k.num) 0 m (.jnOf k m) := by cases k <;> exact {}
theorem isRow_jzOf : IsRow (40 + k.num) 1 m (.jzOf k m) := by cases k <;> exact {}
theorem isRow_jpOf : IsRow (40 + k.num) 2 m (.jpOf k m) := by cases k <;> exact {}
theorem isRow_jnnOf : IsRow (40 + k.num) 3 m (.jnnOf k m) := by cases k <;> exact {}
theorem isRow_jnzOf : IsRow (40 + k.num) 4 m (.jnzOf k m) := by cases k <;> exact {}
theorem isRow_jnpOf : IsRow (40 + k.num) 5 m (.jnpOf k m) := by cases k <;> exact {}
theorem isRow_incOf : IsRow (48 + k.num) 0 m (.incOf k m) := by cases k <;> exact {}
theorem isRow_decOf : IsRow (48 + k.num) 1 m (.decOf k m) := by cases k <;> exact {}
theorem isRow_entOf : IsRow (48 + k.num) 2 m (.entOf k m) := by cases k <;> exact {}
theorem isRow_ennOf : IsRow (48 + k.num) 3 m (.ennOf k m) := by cases k <;> exact {}
theorem isRow_cmpOf : IsRow (56 + k.num) f m (.cmpOf k m f) := by cases k <;> exact {}

end Families

/-! ### The opcode map by instruction -/

/-- Every instruction has a row. -/
theorem Instr.exists_row (i : Instr) : ∃ c f m, IsRow c f m i := by
  induction i using Instr.byFamily with
  | fam_ld k m f => exact ⟨_, _, _, isRow_ldOf k m f⟩
  | fam_ldn k m f => exact ⟨_, _, _, isRow_ldnOf k m f⟩
  | fam_st k m f => exact ⟨_, _, _, isRow_stOf k m f⟩
  | fam_cmp k m f => exact ⟨_, _, _, isRow_cmpOf k m f⟩
  | fam_inc k m => exact ⟨_, _, _, isRow_incOf k m⟩
  | fam_dec k m => exact ⟨_, _, _, isRow_decOf k m⟩
  | fam_ent k m => exact ⟨_, _, _, isRow_entOf k m⟩
  | fam_enn k m => exact ⟨_, _, _, isRow_ennOf k m⟩
  | fam_jn k m => exact ⟨_, _, _, isRow_jnOf k m⟩
  | fam_jz k m => exact ⟨_, _, _, isRow_jzOf k m⟩
  | fam_jp k m => exact ⟨_, _, _, isRow_jpOf k m⟩
  | fam_jnn k m => exact ⟨_, _, _, isRow_jnnOf k m⟩
  | fam_jnz k m => exact ⟨_, _, _, isRow_jnzOf k m⟩
  | fam_jnp k m => exact ⟨_, _, _, isRow_jnpOf k m⟩
  | one_nop m f => exact ⟨0, f, m, {}⟩
  | one_add m f => exact ⟨1, f, m, {}⟩
  | one_sub m f => exact ⟨2, f, m, {}⟩
  | one_mul m f => exact ⟨3, f, m, {}⟩
  | one_div m f => exact ⟨4, f, m, {}⟩
  | one_num m => exact ⟨5, 0, m, {}⟩
  | one_char m => exact ⟨5, 1, m, {}⟩
  | one_hlt m => exact ⟨5, 2, m, {}⟩
  | one_sla m => exact ⟨6, 0, m, {}⟩
  | one_sra m => exact ⟨6, 1, m, {}⟩
  | one_slax m => exact ⟨6, 2, m, {}⟩
  | one_srax m => exact ⟨6, 3, m, {}⟩
  | one_slc m => exact ⟨6, 4, m, {}⟩
  | one_src m => exact ⟨6, 5, m, {}⟩
  | one_move m f => exact ⟨7, f, m, {}⟩
  | one_stj m f => exact ⟨32, f, m, {}⟩
  | one_stz m f => exact ⟨33, f, m, {}⟩
  | one_jbus m f => exact ⟨34, f, m, {}⟩
  | one_ioc m f => exact ⟨35, f, m, {}⟩
  | one_inp m f => exact ⟨36, f, m, {}⟩
  | one_out m f => exact ⟨37, f, m, {}⟩
  | one_jred m f => exact ⟨38, f, m, {}⟩
  | one_jmp m => exact ⟨39, 0, m, {}⟩
  | one_jsj m => exact ⟨39, 1, m, {}⟩
  | one_jov m => exact ⟨39, 2, m, {}⟩
  | one_jnov m => exact ⟨39, 3, m, {}⟩
  | one_jl m => exact ⟨39, 4, m, {}⟩
  | one_je m => exact ⟨39, 5, m, {}⟩
  | one_jg m => exact ⟨39, 6, m, {}⟩
  | one_jge m => exact ⟨39, 7, m, {}⟩
  | one_jne m => exact ⟨39, 8, m, {}⟩
  | one_jle m => exact ⟨39, 9, m, {}⟩

/-! ### The opcode map by opcode -/

section Opcodes
variable (k : Reg) (f : Nat) (m : AddrSpec)

/-- C = 5: F selects NUM, CHAR or HLT. -/
theorem special_row_or_rejected : (∃ i, IsRow 5 f m i) ∨ IsRejected 5 f m :=
  match f with
  | 0 => .inl ⟨.num m, {}⟩
  | 1 => .inl ⟨.char m, {}⟩
  | 2 => .inl ⟨.hlt m, {}⟩
  | _ + 3 => .inr {}

/-- C = 6: F selects the shift. -/
theorem shift_row_or_rejected : (∃ i, IsRow 6 f m i) ∨ IsRejected 6 f m :=
  match f with
  | 0 => .inl ⟨.sla m, {}⟩
  | 1 => .inl ⟨.sra m, {}⟩
  | 2 => .inl ⟨.slax m, {}⟩
  | 3 => .inl ⟨.srax m, {}⟩
  | 4 => .inl ⟨.slc m, {}⟩
  | 5 => .inl ⟨.src m, {}⟩
  | _ + 6 => .inr {}

/-- C = 39: F selects the jump: plain, on the overflow latch, or on the comparison indicator. -/
theorem jump_row_or_rejected : (∃ i, IsRow 39 f m i) ∨ IsRejected 39 f m :=
  match f with
  | 0 => .inl ⟨.jmp m, {}⟩
  | 1 => .inl ⟨.jsj m, {}⟩
  | 2 => .inl ⟨.jov m, {}⟩
  | 3 => .inl ⟨.jnov m, {}⟩
  | 4 => .inl ⟨.jl m, {}⟩
  | 5 => .inl ⟨.je m, {}⟩
  | 6 => .inl ⟨.jg m, {}⟩
  | 7 => .inl ⟨.jge m, {}⟩
  | 8 => .inl ⟨.jne m, {}⟩
  | 9 => .inl ⟨.jle m, {}⟩
  | _ + 10 => .inr {}

/-- C = 40..47: F selects the jump on the register. -/
theorem jumpReg_row_or_rejected : (∃ i, IsRow (40 + k.num) f m i) ∨ IsRejected (40 + k.num) f m :=
  match f with
  | 0 => .inl ⟨_, isRow_jnOf k m⟩
  | 1 => .inl ⟨_, isRow_jzOf k m⟩
  | 2 => .inl ⟨_, isRow_jpOf k m⟩
  | 3 => .inl ⟨_, isRow_jnnOf k m⟩
  | 4 => .inl ⟨_, isRow_jnzOf k m⟩
  | 5 => .inl ⟨_, isRow_jnpOf k m⟩
  | _ + 6 => .inr (by cases k <;> exact {})

/-- C = 48..55: F selects increment, decrement, enter or enter negative. -/
theorem transfer_row_or_rejected : (∃ i, IsRow (48 + k.num) f m i) ∨ IsRejected (48 + k.num) f m :=
  match f with
  | 0 => .inl ⟨_, isRow_incOf k m⟩
  | 1 => .inl ⟨_, isRow_decOf k m⟩
  | 2 => .inl ⟨_, isRow_entOf k m⟩
  | 3 => .inl ⟨_, isRow_ennOf k m⟩
  | _ + 4 => .inr (by cases k <;> exact {})

end Opcodes

/-- A number below 8 is a register number. -/
theorem Reg.exists_num_eq : ∀ n < 8, ∃ k : Reg, k.num = n
  | 0, _ => ⟨.a, rfl⟩
  | 1, _ => ⟨.i1, rfl⟩
  | 2, _ => ⟨.i2, rfl⟩
  | 3, _ => ⟨.i3, rfl⟩
  | 4, _ => ⟨.i4, rfl⟩
  | 5, _ => ⟨.i5, rfl⟩
  | 6, _ => ⟨.i6, rfl⟩
  | 7, _ => ⟨.x, rfl⟩

/-- The opcode `8 * g + k`, in the groups of eight of R100, with any modifier: a row, or rejected. -/
theorem group_row_or_rejected {g : Nat} (hg : g < 8) (k : Reg) (f : Nat) (m : AddrSpec) :
    (∃ i, IsRow (8 * g + k.num) f m i) ∨ IsRejected (8 * g + k.num) f m :=
  match g, hg with
  | 0, _ =>
    match k with
    | .a => .inl ⟨.nop m f, {}⟩
    | .i1 => .inl ⟨.add m f, {}⟩
    | .i2 => .inl ⟨.sub m f, {}⟩
    | .i3 => .inl ⟨.mul m f, {}⟩
    | .i4 => .inl ⟨.div m f, {}⟩
    | .i5 => special_row_or_rejected f m
    | .i6 => shift_row_or_rejected f m
    | .x => .inl ⟨.move m f, {}⟩
  | 1, _ => .inl ⟨_, isRow_ldOf k m f⟩
  | 2, _ => .inl ⟨_, isRow_ldnOf k m f⟩
  | 3, _ => .inl ⟨_, isRow_stOf k m f⟩
  | 4, _ =>
    match k with
    | .a => .inl ⟨.stj m f, {}⟩
    | .i1 => .inl ⟨.stz m f, {}⟩
    | .i2 => .inl ⟨.jbus m f, {}⟩
    | .i3 => .inl ⟨.ioc m f, {}⟩
    | .i4 => .inl ⟨.inp m f, {}⟩
    | .i5 => .inl ⟨.out m f, {}⟩
    | .i6 => .inl ⟨.jred m f, {}⟩
    | .x => jump_row_or_rejected f m
  | 5, _ => jumpReg_row_or_rejected k f m
  | 6, _ => transfer_row_or_rejected k f m
  | 7, _ => .inl ⟨_, isRow_cmpOf k m f⟩

theorem row_or_rejected {c : Nat} (hc : c < 64) (f : Nat) (m : AddrSpec) : (∃ i, IsRow c f m i) ∨ IsRejected c f m := by
  obtain ⟨k, hk⟩ := Reg.exists_num_eq (c % 8) (Nat.mod_lt _ (by decide))
  have hgroup : c / 8 < 8 := by omega
  have hcode : 8 * (c / 8) + k.num = c := by rw [hk, Nat.div_add_mod]
  simpa only [hcode] using group_row_or_rejected hgroup k f m

/-- What the decoder can answer: the instruction of a row, with the word's own fields, or the rejection. -/
theorem decode_row_or_rejected (w : Word) :
    (∃ i, IsRow (opcodeOf w) (modifierOf w) (addrSpecOf w) i) ∨
      IsRejected (opcodeOf w) (modifierOf w) (addrSpecOf w) :=
  row_or_rejected (opcodeOf_lt w) _ _

/-! ## The obligations -/

/-- Settles O1: the fields of a well-formed instruction's row fit, so that they are read back from its word. -/
theorem decodeOfEncodeGivesTheInstructionBack : Obligations.DecodeOfEncodeGivesTheInstructionBack := by
  intro i hi
  obtain ⟨c, f, m, row⟩ := i.exists_row
  obtain ⟨hm, hf⟩ := row.wellFormed_iff.mp hi
  rw [row.encode_eq, decode_assemble hm hf row.opcode_lt, row.decodeFields_eq]

/-- Settles O2: an instruction that decodes has the row of the word's own fields, and these make up the word. -/
theorem encodeOfDecodeGivesTheWordBack : Obligations.EncodeOfDecodeGivesTheWordBack := by
  intro w i hdecode
  obtain ⟨j, row⟩ | rejected := decode_row_or_rejected w
  · obtain rfl : j = i := Except.ok.inj (row.decodeFields_eq.symm.trans hdecode)
    exact ⟨row.wellFormed_iff.mpr ⟨addrSpecOf_fits w, modifierOf_lt w⟩, row.encode_eq.trans (assemble_fields w)⟩
  · exact nomatch rejected.decodeFields_eq.symm.trans hdecode

/-- Settles O4: a word with a row decodes and its pair is supported; the others are rejected and unsupported. -/
theorem rejectedWordsAreTheUnsupportedOnes : Obligations.RejectedWordsAreTheUnsupportedOnes := by
  intro w
  change (∃ e, decode w = .error e) ↔ Unsupported (opcodeOf w) (modifierOf w)
  obtain ⟨i, row⟩ | rejected := decode_row_or_rejected w
  · refine iff_of_false ?_ row.supported
    rintro ⟨e, herror⟩
    exact nomatch row.decodeFields_eq.symm.trans herror
  · exact iff_of_true ⟨_, rejected.decodeFields_eq⟩ rejected.unsupported

/-- A table word that is the word of a well-formed instruction decodes to it. -/
theorem decodeTableWord_of_encode {nbits w : Nat} {i : Instr} (hi : WellFormed i) (hw : tableWord nbits w = encode i) :
    decodeTableWord nbits w = some i := by
  rw [decodeTableWord, hw, decodeOfEncodeGivesTheInstructionBack i hi]

/-- Settles O3: each of the eight words is the word of its instruction, and decodes to it by O1. -/
theorem specWordsDecodeToTheirInstructions : Obligations.SpecWordsDecodeToTheirInstructions :=
  ⟨decodeTableWord_of_encode rfl rfl, decodeTableWord_of_encode rfl rfl, decodeTableWord_of_encode rfl rfl,
    decodeTableWord_of_encode rfl rfl, decodeTableWord_of_encode rfl rfl, decodeTableWord_of_encode rfl rfl,
    decodeTableWord_of_encode rfl rfl, decodeTableWord_of_encode rfl rfl⟩

end Sys2Proof
end

section
/-! A step that fetches an unsupported sub-operation (30_encoding.md R104): obligation O7. -/

namespace Sys2Proof.Machine

/-- The execute phase of a word that does not decode. -/
theorem execFetched_of_error {s : State} {e : DecodeError} (h : decode s.ir = .error e) :
    execFetched s = .next ((s.warnAll [.w5]).charge (Config.defaultCost e s)) := by
  rw [execFetched, h]

/-- Settles O7: the step is the execute phase after the fetch, which warns W5 and charges the default cost. -/
theorem unsupportedSubOperationIsANoOperation : Obligations.UnsupportedSubOperationIsANoOperation := by
  intro s e hruns hdecode
  rw [step_runs s hruns, execFetched_of_error (e := e) hdecode]
  rfl

end Sys2Proof.Machine
end

section
/-! The bytes of a number in base 64, byte 0 the least significant, and the bytes of a word through them (00_scope.md R8). -/

namespace Sys2Proof

/-- The byte of a number that has `k` bytes to its right. -/
def byteAt (n k : Nat) : Nat := n / 64 ^ k % 64

theorem byteAt_div_pow (n u k : Nat) : byteAt (n / 64 ^ u) k = byteAt n (u + k) := by
  rw [byteAt, byteAt, Nat.div_div_eq_div_mul, pow_add]

/-- Of a number put together from `u` low bytes and a high part, the low bytes are those of the first. -/
theorem byteAt_add_mul_pow_low {u k : Nat} (hk : k < u) (a b : Nat) : byteAt (a + 64 ^ u * b) k = byteAt a k := by
  obtain ⟨c, rfl⟩ := Nat.exists_eq_add_of_lt hk
  have hsplit : 64 ^ (k + c + 1) * b = 64 ^ k * (64 * (64 ^ c * b)) := by ring
  rw [byteAt, hsplit, Nat.add_mul_div_left _ _ (by positivity), Nat.add_mul_mod_self_left, byteAt]

/-- Of a number put together from `u` low bytes and a high part, the other bytes are those of the high part. -/
theorem byteAt_add_mul_pow_high {u k a : Nat} (ha : a < 64 ^ u) (hk : u ≤ k) (b : Nat) :
    byteAt (a + 64 ^ u * b) k = byteAt b (k - u) := by
  have hhigh : (a + 64 ^ u * b) / 64 ^ u = b := by
    rw [Nat.add_mul_div_left _ _ (by positivity), Nat.div_eq_of_lt ha, Nat.zero_add]
  calc byteAt (a + 64 ^ u * b) k = byteAt ((a + 64 ^ u * b) / 64 ^ u) (k - u) := by
        rw [byteAt_div_pow, Nat.add_sub_cancel' hk]
    _ = byteAt b (k - u) := by rw [hhigh]

/-- The remainder by `64 ^ s` keeps the `s` low bytes. -/
theorem byteAt_mod_pow (n s k : Nat) : byteAt (n % 64 ^ s) k = if k < s then byteAt n k else 0 := by
  split
  · next hk =>
    conv_rhs => rw [← Nat.mod_add_div n (64 ^ s)]
    rw [byteAt_add_mul_pow_low hk]
  · next hk =>
    have hlt : n % 64 ^ s < 64 ^ k :=
      (Nat.mod_lt n (by positivity)).trans_le (Nat.pow_le_pow_right (by decide) (Nat.le_of_not_lt hk))
    rw [byteAt, Nat.div_eq_of_lt hlt]

/-- Writing `new` over the digit of range `span` at place `unit`: what is below and above it stays. -/
theorem sub_add_middle_eq (n unit span new : Nat) :
    n - n / unit % span * unit + new * unit = n % unit + unit * (new + span * (n / unit / span)) := by
  have hsplit : n = n % unit + (n / unit % span * unit + unit * (span * (n / unit / span))) := by
    calc n = n % unit + unit * (n / unit % span + span * (n / unit / span)) := by
          rw [Nat.mod_add_div, Nat.mod_add_div]
      _ = _ := by rw [Nat.mul_add, Nat.mul_comm unit (n / unit % span)]
  rw [Nat.mul_add, Nat.mul_comm unit new]
  omega

/-! ## Words -/

/-- The bytes of a word are the bytes of its magnitude, counted from the other end. -/
theorem Word.byte_eq_byteAt (w : Word) (j : Nat) : w.byte j = byteAt w.magnitude (5 - j) := rfl

@[simp] theorem plusZero_byte (j : Nat) : Word.plusZero.byte j = 0 := by
  rw [Word.byte, plusZero_magnitude, Nat.zero_div]

/-- `word(s, m)` has the five low bytes of `m`. -/
theorem word_byte (b : Bool) (m : Nat) {j : Nat} (hj : 1 ≤ j) : (word b m).byte j = byteAt m (5 - j) := by
  have hwidth : 2 ^ 30 = 64 ^ 5 := by decide
  rw [Word.byte_eq_byteAt, word_magnitude, hwidth, byteAt_mod_pow, if_pos (by omega)]

end Sys2Proof
end

section
/-! Field access byte by byte (40_field_loadstore.md R120, R121, R127): obligations O21, O22 and O23. -/

namespace Sys2Proof.Machine

theorem FieldSpec.size_of_bytes {p : FieldSpec} (hlr : p.l ≤ p.r) (hp : 0 < p.r) : p.size = p.r + 1 - max p.l 1 := by
  rw [FieldSpec.size, FieldSpec.first]
  omega

/-! ## Loading a field (R120) -/

/-- The field (0:0) loads as `+0`. -/
theorem fieldLoad_of_no_bytes (w : Word) {p : FieldSpec} (hp : p.r = 0) : fieldLoad w p = Word.plusZero := if_pos hp

theorem fieldLoad_of_bytes (w : Word) {p : FieldSpec} (hp : 0 < p.r) :
    fieldLoad w p = word (decide (p.l = 0) && w.neg) (w.magnitude / 64 ^ (5 - p.r) % 64 ^ p.size) :=
  if_neg hp.ne'

theorem fieldLoad_neg (w : Word) (p : FieldSpec) :
    (fieldLoad w p).neg = (decide (0 < p.r) && (decide (p.l = 0) && w.neg)) := by
  obtain hr | hr := Nat.eq_zero_or_pos p.r
  · simp [fieldLoad_of_no_bytes w hr, hr]
  · simp [fieldLoad_of_bytes w hr, hr]

theorem fieldLoad_byte (w : Word) {p : FieldSpec} (hlr : p.l ≤ p.r) (hr : p.r ≤ 5) {j : Nat} (hj : 1 ≤ j) (hj5 : j ≤ 5) :
    (fieldLoad w p).byte j = if max p.l 1 + 5 ≤ j + p.r then w.byte (j + p.r - 5) else 0 := by
  obtain hr0 | hr0 := Nat.eq_zero_or_pos p.r
  · rw [fieldLoad_of_no_bytes w hr0, plusZero_byte, if_neg (by omega)]
  · rw [fieldLoad_of_bytes w hr0, word_byte _ _ hj, byteAt_mod_pow, byteAt_div_pow]
    have hsize := FieldSpec.size_of_bytes hlr hr0
    by_cases hin : max p.l 1 + 5 ≤ j + p.r
    · have hplace : 5 - p.r + (5 - j) = 5 - (j + p.r - 5) := by omega
      rw [if_pos (by omega), if_pos hin, Word.byte_eq_byteAt, hplace]
    · rw [if_neg (by omega), if_neg hin]

/-! ## Storing into a field (R121) -/

theorem fieldStore_neg (w v : Word) (p : FieldSpec) : (fieldStore w p v).neg = if p.l = 0 then v.neg else w.neg := by
  simp only [fieldStore]
  split <;> rfl

/-- A store into the field (0:0) writes the sign only. -/
theorem fieldStore_of_no_bytes (w v : Word) {p : FieldSpec} (hp : p.r = 0) :
    fieldStore w p v = word (if p.l = 0 then v.neg else w.neg) w.magnitude := if_pos hp

/-- The magnitude after a store: the bytes right of the field, the field's new bytes, the bytes left of it. -/
theorem fieldStore_of_bytes (w v : Word) {p : FieldSpec} (hp : 0 < p.r) :
    fieldStore w p v = word (if p.l = 0 then v.neg else w.neg) (w.magnitude % 64 ^ (5 - p.r) +
      64 ^ (5 - p.r) * (v.magnitude % 64 ^ p.size + 64 ^ p.size * (w.magnitude / 64 ^ (5 - p.r) / 64 ^ p.size))) := by
  rw [← sub_add_middle_eq]
  exact if_neg hp.ne'

theorem fieldStore_byte (w v : Word) {p : FieldSpec} (hlr : p.l ≤ p.r) (hr : p.r ≤ 5) {j : Nat} (hj : 1 ≤ j)
    (hj5 : j ≤ 5) :
    (fieldStore w p v).byte j = if max p.l 1 ≤ j ∧ j ≤ p.r then v.byte (j + 5 - p.r) else w.byte j := by
  obtain hr0 | hr0 := Nat.eq_zero_or_pos p.r
  · rw [fieldStore_of_no_bytes w v hr0, word_byte _ _ hj, if_neg (by omega), Word.byte_eq_byteAt]
  have hsize := FieldSpec.size_of_bytes hlr hr0
  have hright : w.magnitude % 64 ^ (5 - p.r) < 64 ^ (5 - p.r) := Nat.mod_lt _ (by positivity)
  have hfield : v.magnitude % 64 ^ p.size < 64 ^ p.size := Nat.mod_lt _ (by positivity)
  rw [fieldStore_of_bytes w v hr0, word_byte _ _ hj, Word.byte_eq_byteAt, Word.byte_eq_byteAt]
  obtain hgt | hle := Nat.lt_or_ge p.r j
  · -- right of the field
    rw [byteAt_add_mul_pow_low (by omega), byteAt_mod_pow, if_pos (by omega), if_neg (by omega)]
  rw [byteAt_add_mul_pow_high hright (by omega)]
  obtain hlt | hge := Nat.lt_or_ge j (max p.l 1)
  · -- left of the field
    have hplace : 5 - p.r + (p.size + (5 - j - (5 - p.r) - p.size)) = 5 - j := by omega
    rw [byteAt_add_mul_pow_high hfield (by omega), byteAt_div_pow, byteAt_div_pow, hplace, if_neg (by omega)]
  · -- in the field
    have hplace : 5 - j - (5 - p.r) = 5 - (j + 5 - p.r) := by omega
    rw [byteAt_add_mul_pow_low (by omega), byteAt_mod_pow, if_pos (by omega), if_pos ⟨hge, hle⟩, hplace]

/-! ## Storing a loaded field (R127) -/

/-- A byte of the field is the loaded word's at the right-aligned place, which the load took from the same field. -/
theorem fieldStore_fieldLoad_byte (w w' : Word) {p : FieldSpec} (hlr : p.l ≤ p.r) (hr : p.r ≤ 5) {j : Nat} (hj : 1 ≤ j)
    (hj5 : j ≤ 5) :
    (fieldStore w' p (fieldLoad w p)).byte j = if max p.l 1 ≤ j ∧ j ≤ p.r then w.byte j else w'.byte j := by
  rw [fieldStore_byte _ _ hlr hr hj hj5]
  split
  · next hin =>
    have hplace : j + 5 - p.r + p.r - 5 = j := by omega
    rw [fieldLoad_byte w hlr hr (by omega) (by omega), if_pos (by omega), hplace]
  · rfl

theorem fieldStore_fieldLoad_neg (w w' : Word) (p : FieldSpec) :
    (fieldStore w' p (fieldLoad w p)).neg = if p.l = 0 then decide (0 < p.r) && w.neg else w'.neg := by
  rw [fieldStore_neg, fieldLoad_neg]
  split
  · next hl => rw [decide_eq_true hl, Bool.true_and]
  · rfl

/-! ## The obligations -/

/-- Settles O21: the bytes of a load are the low bytes of the magnitude shifted right to the field's end. -/
theorem fieldLoadRightAlignsTheBytes : Obligations.FieldLoadRightAlignsTheBytes := by
  intro w l r hlr hr
  refine ⟨fun hr0 => fieldLoad_of_no_bytes w hr0, fun hr0 => ?_, fun j hj hj5 => fieldLoad_byte w hlr hr hj hj5⟩
  rw [fieldLoad_neg, decide_eq_true hr0, Bool.true_and]

/-- Settles O22: the magnitude after a store is three groups of bytes, and a byte lies right of the field, left of it or in
it. -/
theorem fieldStoreReplacesTheBytes : Obligations.FieldStoreReplacesTheBytes :=
  fun w v _ _ hlr hr => ⟨fieldStore_neg w v _, fun _ hj hj5 => fieldStore_byte w v hlr hr hj hj5⟩

/-- Settles O23: the law of R127 for bytes and sign. -/
theorem storeOfLoadCopiesTheField : Obligations.StoreOfLoadCopiesTheField :=
  fun w w' _ _ hlr hr => ⟨fun _ hj hj5 => fieldStore_fieldLoad_byte w w' hlr hr hj hj5, fieldStore_fieldLoad_neg w w' _⟩

end Sys2Proof.Machine
end

section
/-! Loads, negative loads and stores (40_field_loadstore.md sections 3 to 5): obligations O17, O18 and O19. -/

namespace Sys2Proof.Machine

theorem State.loadField_eq (s : State) (k : Reg) (m : AddrSpec) (f : Nat) :
    s.loadField k m f = { s with
      regs := s.regs.set k (s.operand m f), trace := s.trace ++ (s.operandWarnings m f).map Event.warning } :=
  rfl

theorem State.loadNegField_eq (s : State) (k : Reg) (m : AddrSpec) (f : Nat) :
    s.loadNegField k m f = { s with
      regs := s.regs.set k (s.operand m f).negate, trace := s.trace ++ (s.operandWarnings m f).map Event.warning } :=
  rfl

/-- A store by field leaves everything but memory and the trace alone. -/
theorem State.storeField_eq (s : State) (v : Word) (m : AddrSpec) (f : Nat) :
    s.storeField v m f = { s with
      mem := (s.storeField v m f).mem, trace := s.trace ++ (s.operandWarnings m f).map Event.warning } :=
  rfl

theorem State.storeField_readMem_same (s : State) (v : Word) (m : AddrSpec) (f : Nat) (h : Memory.wf s.mem = true) :
    (s.storeField v m f).readMem (s.mAddr m) = fieldStore (s.readMem (s.mAddr m)) (fieldSpec f) v :=
  (s.warnAll _).writeMem_readMem_same _ _ h

theorem State.storeField_readMem_other (s : State) (v : Word) (m : AddrSpec) (f : Nat) (h : Memory.wf s.mem = true)
    {a : Addr} (ha : a ≠ s.mAddr m) : (s.storeField v m f).readMem a = s.readMem a :=
  (s.warnAll _).writeMem_readMem_other _ a _ h ha

/-- Settles O17: each of the eight instructions is the load template on its register. -/
theorem loadsTakeTheField : Obligations.LoadsTakeTheField := by
  intro k m f s
  rw [exec_ldOf, State.loadField_eq, State.operand]

/-- Settles O18: each of the eight instructions is the load-negative template on its register. -/
theorem loadNegativesFlipTheSign : Obligations.LoadNegativesFlipTheSign := by
  intro k m f s
  rw [exec_ldnOf, State.loadNegField_eq, State.operand, Word.negate]

/-- Settles O19: each of the eight instructions is the store template from its register, one write at M. -/
theorem storesReplaceTheFieldAtMOnly : Obligations.StoresReplaceTheFieldAtMOnly :=
  fun k m f s h => ⟨s.storeField (s.reg k) m f, exec_stOf k m f s, s.storeField_readMem_same _ m f h,
    fun _ ha => s.storeField_readMem_other _ m f h ha, s.storeField_eq _ m f⟩

end Sys2Proof.Machine
end

section
/-! The values of re-encoded sums, products, quotients and remainders (00_scope.md R9, 41_alu.md R182). -/

namespace Sys2Proof

/-! ## Signs and values -/

theorem Word.val_eq_zero_iff (w : Word) : w.val = 0 ↔ w.magnitude = 0 := by
  rw [← w.val_natAbs, Int.natAbs_eq_zero]

theorem Word.val_lt_zero_iff (w : Word) (h : w.magnitude ≠ 0) : w.val < 0 ↔ w.neg = true := by
  unfold Word.val
  split
  · next hneg => exact iff_of_true (by omega) hneg
  · next hpos => exact iff_of_false (by omega) hpos

theorem Word.val_pos_iff (w : Word) (h : w.magnitude ≠ 0) : 0 < w.val ↔ w.neg = false := by
  have hval : w.val ≠ 0 := fun hzero => h (w.val_eq_zero_iff.mp hzero)
  rw [← Bool.not_eq_true, ← w.val_lt_zero_iff h]
  omega

/-! ## Sums -/

theorem encode30_eq (v : Int) : encode30 v = ⟨decide (v < 0), BitVec.ofNat 30 v.natAbs⟩ := rfl

theorem overflows_eq_false {v : Int} (h : v.natAbs ≤ 2 ^ 30 - 1) : overflows v = false :=
  decide_eq_false (by omega)

theorem overflows_eq_true {v : Int} (h : 2 ^ 30 ≤ v.natAbs) : overflows v = true :=
  decide_eq_true (by omega)

/-- A sum of two values is below 2^31, so that at most one 2^30 is lost. -/
theorem Word.val_add_val_natAbs_lt (x y : Word) : (x.val + y.val).natAbs < 2 ^ 31 := by
  have hx := x.magnitude_lt
  have hy := y.magnitude_lt
  have hsum := Int.natAbs_add_le x.val y.val
  rw [x.val_natAbs, y.val_natAbs] at hsum
  omega

theorem encode30_val_of_overflow {v : Int} (hlow : 2 ^ 30 ≤ v.natAbs) (hhigh : v.natAbs < 2 ^ 31) :
    (encode30 v).val = if v < 0 then v + 2 ^ 30 else v - 2 ^ 30 := by
  have hmag : (encode30 v).magnitude = v.natAbs - 2 ^ 30 := by
    rw [encode30, word_magnitude]
    omega
  rw [Word.val, hmag, encode30, word_neg]
  by_cases hv : v < 0
  · rw [if_pos (decide_eq_true hv), if_pos hv]
    omega
  · rw [if_neg (by simpa using hv), if_neg hv]
    omega

/-! ## Products -/

theorem Word.val_mul_val_natAbs (x y : Word) : (x.val * y.val).natAbs = x.magnitude * y.magnitude := by
  rw [Int.natAbs_mul, x.val_natAbs, y.val_natAbs]

/-- A product of two words other than zero is negative where their signs differ. -/
theorem Word.val_mul_val_lt_zero (x y : Word) (hx : x.magnitude ≠ 0) (hy : y.magnitude ≠ 0) :
    decide (x.val * y.val < 0) = (x.neg != y.neg) := by
  rw [Bool.eq_iff_iff, decide_eq_true_iff, mul_neg_iff, x.val_pos_iff hx, x.val_lt_zero_iff hx, y.val_pos_iff hy,
    y.val_lt_zero_iff hy]
  cases x.neg <;> simp

/-- A 60-bit magnitude is the number of its two 30-bit halves. -/
theorem word_halves_magnitude (a b : Bool) {p : Nat} (h : p < 2 ^ 60) :
    (word a (p / 2 ^ 30)).magnitude * 2 ^ 30 + (word b (p % 2 ^ 30)).magnitude = p := by
  rw [word_magnitude, word_magnitude]
  omega

/-! ## Quotients -/

/-- A quotient that fits 30 bits, and the remainder by a 30-bit divisor, are held exactly. -/
theorem word_quotient_remainder (a b : Bool) {n d : Nat} (hd : d < 2 ^ 30) (hfits : n < 2 ^ 30 * d) :
    n = (word a (n / d)).magnitude * d + (word b (n % d)).magnitude ∧ (word b (n % d)).magnitude < d := by
  have hpos : 0 < d := by omega
  have hquot : n / d < 2 ^ 30 := (Nat.div_lt_iff_lt_mul hpos).mpr hfits
  have hrem : n % d < d := Nat.mod_lt n hpos
  rw [word_magnitude, word_magnitude, Nat.mod_eq_of_lt hquot, Nat.mod_eq_of_lt (hrem.trans hd)]
  exact ⟨(Nat.div_add_mod' n d).symm, hrem⟩

/-- A word with the magnitude of `w` and the sign of `w * v` by `v` stands for the value of `w`: the signs agree, or `w` is
a zero and its sign does not matter. -/
theorem Word.val_eq_of_quotient_sign {u w v : Word} (hmag : u.magnitude = w.magnitude) (hv : v.magnitude ≠ 0)
    (hneg : u.neg = (decide (w.val * v.val < 0) != v.neg)) : u.val = w.val := by
  by_cases hw : w.magnitude = 0
  · rw [w.val_eq_zero_iff.mpr hw, u.val_eq_zero_iff, hmag, hw]
  · have hsign : u.neg = w.neg := by
      rw [hneg, w.val_mul_val_lt_zero v hw hv, Bool.bne_assoc, bne_self_eq_false, Bool.bne_false]
    rw [Word.ext_magnitude u w hsign hmag]

end Sys2Proof
end

section
/-! Add, subtract, multiply, divide and the register modifications (41_alu.md): obligations O24 to O31. -/

namespace Sys2Proof.Machine

/-! ## Addition and subtraction -/

theorem exec_add (m : AddrSpec) (f : Nat) (s : State) :
    exec (.add m f) s = .next ((s.warnAll (s.operandWarnings m f)).addTo .a (s.operand m f).val) := rfl

theorem exec_sub (m : AddrSpec) (f : Nat) (s : State) :
    exec (.sub m f) s = .next ((s.warnAll (s.operandWarnings m f)).addTo .a (-(s.operand m f).val)) := rfl

/-- Settles O24: both instructions are the addition template on rA, SUB with the operand's value negated. -/
theorem addAndSubtractReencodeTheExactSum : Obligations.AddAndSubtractReencodeTheExactSum := by
  intro m f s
  constructor
  · rw [exec_add, State.addTo_eq, encode30_eq, overflows_eq]
    rfl
  · rw [exec_sub, State.addTo_eq, encode30_eq, overflows_eq]
    rfl

/-- Settles O25: the sum re-encodes exactly, or is below 2^31 and loses 2^30, or is zero. -/
theorem additionIsExactOrSetsOverflow : Obligations.AdditionIsExactOrSetsOverflow := by
  intro m f s t h v
  obtain ⟨hA, hov⟩ : t.regs.rA = encode30 v ∧ t.ov = (s.ov || overflows v) := by
    rw [exec_add, State.addTo_eq] at h
    cases h
    exact ⟨rfl, rfl⟩
  refine ⟨fun hfits => ⟨?_, ?_⟩, fun hover => ⟨?_, ?_⟩, fun hzero => ?_⟩
  · rw [hA, encode30_val v hfits]
  · rw [hov, overflows_eq_false hfits, Bool.or_false]
  · rw [hov, overflows_eq_true hover, Bool.or_true]
  · rw [hA, encode30_val_of_overflow hover (s.regs.rA.val_add_val_natAbs_lt (s.operand m f))]
  · rw [hA, hzero]
    rfl

/-! ## Multiplication and division -/

theorem exec_mul (m : AddrSpec) (f : Nat) (s : State) :
    exec (.mul m f) s = .next ((s.warnAll (s.operandWarnings m f)).multiply (s.operand m f)) := rfl

theorem exec_div (m : AddrSpec) (f : Nat) (s : State) :
    exec (.div m f) s = .next ((s.warnAll (s.operandWarnings m f)).divide (s.operand m f)) := rfl

/-- Settles O26: the product of two 30-bit magnitudes has 60 bits, which rA:rX holds. -/
theorem multiplyGivesTheExactProduct : Obligations.MultiplyGivesTheExactProduct := by
  intro m f s
  have hprod := s.regs.rA.val_mul_val_natAbs (s.operand m f)
  have hbound : s.regs.rA.magnitude * (s.operand m f).magnitude < 2 ^ 30 * 2 ^ 30 :=
    Nat.mul_lt_mul'' (Word.magnitude_lt _) (Word.magnitude_lt _)
  refine ⟨_, exec_mul m f s, ?_, rfl, rfl, rfl⟩
  rw [State.multiply_eq, State.warnAll_regs, ← hprod]
  exact word_halves_magnitude _ _ (by rw [hprod]; omega)

/-- Settles O27: with the magnitude of rA below the divisor's the quotient fits 30 bits. -/
theorem divideGivesQuotientAndRemainder : Obligations.DivideGivesQuotientAndRemainder := by
  intro m f s hlt
  have hx := s.regs.rX.magnitude_lt
  have hfits : s.regs.rA.magnitude * 2 ^ 30 + s.regs.rX.magnitude < 2 ^ 30 * (s.operand m f).magnitude := by omega
  obtain ⟨hdivision, hrem⟩ := word_quotient_remainder (s.regs.rA.neg ^^ (s.operand m f).neg) s.regs.rA.neg
    (s.operand m f).magnitude_lt hfits
  rw [exec_div, State.divide_fits (s.warnAll _) _ hlt, State.warnAll_regs]
  exact ⟨_, rfl, hdivision, hrem, word_neg _ _, word_neg _ _, rfl⟩

/-- Settles O28: such a division is the overflow path of the template. -/
theorem impossibleDivideOnlySetsOverflow : Obligations.ImpossibleDivideOnlySetsOverflow := by
  intro m f s h
  rw [exec_div, State.divide_overflow (s.warnAll _) _ h]
  rfl

/-- Settles O29: the product of O26 leaves rA below the operand, so that O27 divides it, and a quotient and a remainder
are unique. -/
theorem multiplyThenDivideRecoversTheFactor : Obligations.MultiplyThenDivideRecoversTheFactor := by
  intro m f s hv
  have hpos : 0 < (s.operand m f).magnitude := Nat.pos_of_ne_zero hv
  obtain ⟨t, hmul, hprod, htneg, -, htframe⟩ := multiplyGivesTheExactProduct m f s
  have hoperand : t.operand m f = s.operand m f := by
    rw [htframe]
    exact s.operand_withAX _ _ m f
  have hlt : t.regs.rA.magnitude < (t.operand m f).magnitude := by
    have hbound : s.regs.rA.magnitude * (s.operand m f).magnitude < 2 ^ 30 * (s.operand m f).magnitude :=
      Nat.mul_lt_mul_of_pos_right (Word.magnitude_lt _) hpos
    rw [hoperand]
    omega
  obtain ⟨u, hdiv, hdivision, hrem, huneg, -, huframe⟩ := divideGivesQuotientAndRemainder m f t hlt
  rw [hprod, hoperand] at hdivision
  rw [hoperand] at hrem
  rw [hoperand, htneg] at huneg
  have hproduct : u.regs.rX.magnitude + (s.operand m f).magnitude * u.regs.rA.magnitude =
      s.regs.rA.magnitude * (s.operand m f).magnitude := by
    rw [hdivision, Nat.mul_comm, Nat.add_comm]
  obtain ⟨hquot, hzero⟩ := (Nat.div_mod_unique hpos).mpr ⟨hproduct, hrem⟩
  rw [Nat.mul_div_cancel _ hpos] at hquot
  rw [Nat.mul_mod_left] at hzero
  refine ⟨t, u, hmul, hdiv, Word.val_eq_of_quotient_sign hquot.symm hv huneg, hzero.symm, ?_, ?_⟩
  · rw [huframe, htframe]
  · rw [huframe, htframe]

/-! ## The register modifications -/

/-- Settles O30: each of the sixteen instructions is the increment template on its register, by M or by -M. -/
theorem incrementAndDecrementByM : Obligations.IncrementAndDecrementByM := by
  intro k m s
  constructor
  · rw [exec_incOf, State.modify_eq, map_indexWarnings, encode30_eq, overflows_eq]
  · rw [exec_decOf, State.modify_eq, map_indexWarnings, encode30_eq, overflows_eq, ← Int.sub_eq_add_neg]

theorem enterWord_of_ne_zero (m : AddrSpec) {v : Int} (h : v ≠ 0) :
    enterWord m v = word (decide (v < 0)) v.natAbs :=
  if_neg h

theorem enterWord_of_eq_zero (m : AddrSpec) {v : Int} (h : v = 0) : enterWord m v = word m.neg v.natAbs := by
  subst h
  rfl

theorem enterNegWord_of_ne_zero (m : AddrSpec) {v : Int} (h : v ≠ 0) :
    enterNegWord m v = word (decide (0 < v)) v.natAbs :=
  if_neg h

theorem enterNegWord_of_eq_zero (m : AddrSpec) {v : Int} (h : v = 0) :
    enterNegWord m v = word (!m.neg) v.natAbs := by
  subst h
  rfl

/-- Settles O31: each of the sixteen instructions is the enter template on its register; where M is 0 the word entered
takes its sign from the instruction. -/
theorem enterAndEnterNegativeLoadM : Obligations.EnterAndEnterNegativeLoadM := by
  intro k m s
  rw [exec_entOf, exec_ennOf, State.enter_eq, State.enter_eq, map_indexWarnings]
  refine ⟨fun hM => ⟨?_, ?_⟩, fun hM => ⟨?_, ?_⟩⟩
  · rw [enterWord_of_ne_zero m hM, word]
  · rw [enterNegWord_of_ne_zero m hM, word]
  · rw [enterWord_of_eq_zero m hM, word]
  · rw [enterNegWord_of_eq_zero m hM, word]

end Sys2Proof.Machine
end

section
/-! The compares and the jumps (42_compare_branch.md): obligations O32 to O36. -/

namespace Sys2Proof.Machine

/-! ## The order of two fields (R230) -/

theorem compareInts_of_lt {x y : Int} (h : x < y) : compareInts x y = .less := if_pos h

theorem compareInts_of_eq {x y : Int} (h : x = y) : compareInts x y = .equal := by
  rw [compareInts, if_neg h.not_lt, if_pos h]

theorem compareInts_of_gt {x y : Int} (h : y < x) : compareInts x y = .greater := by
  rw [compareInts, if_neg h.not_gt, if_neg h.ne']

/-- A comparison is always the order of the two loaded fields: (0:0), which compares EQUAL, loads as `+0` from both. -/
theorem compareFields_eq (a w : Word) (p : FieldSpec) :
    compareFields a w p = compareInts (fieldLoad a p).val (fieldLoad w p).val := by
  obtain hr | hr := Nat.eq_zero_or_pos p.r
  · rw [fieldLoad_of_no_bytes a hr, fieldLoad_of_no_bytes w hr, compareInts_of_eq rfl]
    exact if_pos hr
  · exact if_neg hr.ne'

theorem State.compareReg_eq (s : State) (k : Reg) (m : AddrSpec) (f : Nat) :
    s.compareReg k m f = { s with
      ci := compareFields (s.reg k) (s.readMem (s.mAddr m)) (fieldSpec f),
      trace := s.trace ++ (s.operandWarnings m f).map Event.warning } :=
  rfl

/-- Settles O32: each of the eight instructions is the compare template on its register, and the field (0:0) loads equal
values. -/
theorem comparesOrderTheSameFields : Obligations.ComparesOrderTheSameFields := by
  intro k m f s after x y
  have hexec : exec (.cmpOf k m f) s = .next (after (compareInts x y)) := by
    rw [exec_cmpOf, State.compareReg_eq, compareFields_eq]
  rw [hexec]
  refine ⟨fun h => ?_, fun h => ?_, fun h => ?_, fun hr => ?_⟩
  · rw [compareInts_of_lt h]
  · rw [compareInts_of_eq h]
  · rw [compareInts_of_gt h]
  · have hload (w : Word) : fieldLoad w (fieldSpec f) = Word.plusZero := fieldLoad_of_no_bytes w hr
    have hxy : x = y := congrArg Word.val ((hload _).trans (hload _).symm)
    rw [compareInts_of_eq hxy]

/-! ## The unconditional jumps (R241, R242) -/

theorem exec_jmp (m : AddrSpec) (s : State) : exec (.jmp m) s = .next (s.branch true m) := rfl

theorem exec_jsj (m : AddrSpec) (s : State) :
    exec (.jsj m) s = .next ((s.warnAll (s.addrWarnings m)).jumpNoSave (s.mAddr m)) := rfl

/-- Settles O33: JMP is the branch that is always taken, and JSJ writes pc alone. -/
theorem jumpSavesAndJsjDoesNot : Obligations.JumpSavesAndJsjDoesNot := by
  intro m s
  constructor
  · rw [exec_jmp, State.branch_eq, if_pos rfl]
  · rw [exec_jsj]
    rfl

/-! ## The jumps on the overflow latch (R243, R244) -/

theorem exec_jov (m : AddrSpec) (s : State) : exec (.jov m) s = .next ((s.branch s.ov m).setOV false) := rfl

theorem exec_jnov (m : AddrSpec) (s : State) : exec (.jnov m) s = .next ((s.branch (!s.ov) m).setOV false) := rfl

/-- Settles O34: the latch, set or clear, decides the branch, and is cleared after it. -/
theorem overflowJumpsTestAndClear : Obligations.OverflowJumpsTestAndClear := by
  intro m s fall taken
  have htaken : (s.branch true m).setOV false = taken := by rw [State.branch_eq]; rfl
  have hfall : (s.branch false m).setOV false = fall := by rw [State.branch_eq]; rfl
  rw [exec_jov, exec_jnov]
  cases s.ov
  · exact ⟨congrArg _ hfall, congrArg _ htaken⟩
  · exact ⟨congrArg _ htaken, congrArg _ hfall⟩

/-! ## The jumps on the comparison indicator (R245 to R250) -/

section Indicator
variable (m : AddrSpec) (s : State)

theorem exec_jl : exec (.jl m) s = .next (s.branch (decide (s.ci = .less)) m) := rfl
theorem exec_je : exec (.je m) s = .next (s.branch (decide (s.ci = .equal)) m) := rfl
theorem exec_jg : exec (.jg m) s = .next (s.branch (decide (s.ci = .greater)) m) := rfl
theorem exec_jge : exec (.jge m) s = .next (s.branch (decide (s.ci ≠ .less)) m) := rfl
theorem exec_jne : exec (.jne m) s = .next (s.branch (decide (s.ci ≠ .equal)) m) := rfl
theorem exec_jle : exec (.jle m) s = .next (s.branch (decide (s.ci ≠ .greater)) m) := rfl

end Indicator

/-- Settles O35: each of the six is a branch on the indicator; JGE, JNE and JLE fall through where JL, JE and JG jump. -/
theorem comparisonJumpsReadTheIndicator : Obligations.ComparisonJumpsReadTheIndicator := by
  intro m s fall taken
  refine ⟨?_, ?_, ?_, ?_, ?_, ?_⟩
  · rw [exec_jl, State.branch_decide]
  · rw [exec_je, State.branch_decide]
  · rw [exec_jg, State.branch_decide]
  · rw [exec_jge, State.branch_decide, ite_not]
  · rw [exec_jne, State.branch_decide, ite_not]
  · rw [exec_jle, State.branch_decide, ite_not]

/-! ## The register jumps (R251 to R299) -/

/-- Settles O36: each of the 48 is a branch on the signed value of its register. -/
theorem registerJumpsTestTheSignedValue : Obligations.RegisterJumpsTestTheSignedValue := by
  intro k m s fall taken v
  refine ⟨?_, ?_, ?_, ?_, ?_, ?_⟩
  · rw [exec_jnOf, State.branch_decide]
  · rw [exec_jzOf, State.branch_decide]
  · rw [exec_jpOf, State.branch_decide]
  · rw [exec_jnnOf, State.branch_decide]
  · rw [exec_jnzOf, State.branch_decide]
  · rw [exec_jnpOf, State.branch_decide]

end Sys2Proof.Machine
end

section
/-! The low bytes of a number as a list, and what shifts and rotations of the number do to it (00_scope.md R8). -/

namespace Sys2Proof

/-- The `k` low bytes of a number, the most significant first. -/
def lowBytes : Nat → Nat → List Nat
  | 0, _ => []
  | k + 1, n => byteAt n k :: lowBytes k n

@[simp] theorem lowBytes_length (k n : Nat) : (lowBytes k n).length = k := by
  induction k with
  | zero => rfl
  | succ k ih => rw [lowBytes, List.length_cons, ih]

@[simp] theorem lowBytes_of_zero (k : Nat) : lowBytes k 0 = List.replicate k 0 := by
  induction k with
  | zero => rfl
  | succ k ih => rw [lowBytes, ih, byteAt, Nat.zero_div, Nat.zero_mod, List.replicate_succ]

theorem lowBytes_congr {k m n : Nat} (h : ∀ i < k, byteAt m i = byteAt n i) : lowBytes k m = lowBytes k n := by
  induction k with
  | zero => rfl
  | succ k ih => rw [lowBytes, lowBytes, h k k.lt_succ_self, ih fun i hi => h i (hi.trans k.lt_succ_self)]

/-- What is above the low bytes does not matter. -/
theorem lowBytes_add_mul_pow (k a b : Nat) : lowBytes k (a + 64 ^ k * b) = lowBytes k a :=
  lowBytes_congr fun _ hi => byteAt_add_mul_pow_low hi a b

theorem lowBytes_mod_pow (k n : Nat) : lowBytes k (n % 64 ^ k) = lowBytes k n := by
  conv_rhs => rw [← Nat.mod_add_div n (64 ^ k), lowBytes_add_mul_pow]

theorem lowBytes_add (j k n : Nat) : lowBytes (j + k) n = lowBytes j (n / 64 ^ k) ++ lowBytes k n := by
  induction j with
  | zero => rw [Nat.zero_add, lowBytes, List.nil_append]
  | succ j ih => rw [Nat.succ_add, lowBytes, lowBytes, byteAt_div_pow, ih, Nat.add_comm k j, List.cons_append]

/-- A number put together from `k` low bytes and a high part has the bytes of the high part before the low ones. -/
theorem lowBytes_append {a k : Nat} (ha : a < 64 ^ k) (j b : Nat) :
    lowBytes (j + k) (a + 64 ^ k * b) = lowBytes j b ++ lowBytes k a := by
  rw [lowBytes_add, lowBytes_add_mul_pow, Nat.add_mul_div_left _ _ (by positivity), Nat.div_eq_of_lt ha, Nat.zero_add]

theorem lowBytes_drop (c j n : Nat) : (lowBytes (c + j) n).drop c = lowBytes j n := by
  rw [lowBytes_add, List.drop_left' (lowBytes_length c _)]

theorem lowBytes_take (c j n : Nat) : (lowBytes (c + j) n).take c = lowBytes c (n / 64 ^ j) := by
  rw [lowBytes_add, List.take_left' (lowBytes_length c _)]

/-- A shift to the left by `c` bytes. -/
theorem lowBytes_mul_pow (w c n : Nat) :
    lowBytes w (n * 64 ^ c) = (lowBytes w n).drop c ++ List.replicate (min c w) 0 := by
  obtain hc | hw := Nat.le_total c w
  · obtain ⟨j, rfl⟩ := Nat.exists_eq_add_of_le hc
    calc lowBytes (c + j) (n * 64 ^ c) = lowBytes (j + c) (0 + 64 ^ c * n) := by
          rw [Nat.add_comm c j, Nat.zero_add, Nat.mul_comm]
      _ = lowBytes j n ++ lowBytes c 0 := lowBytes_append (by positivity) j n
      _ = _ := by rw [lowBytes_drop, lowBytes_of_zero, min_eq_left hc]
  · obtain ⟨d, rfl⟩ := Nat.exists_eq_add_of_le hw
    calc lowBytes w (n * 64 ^ (w + d)) = lowBytes w (0 + 64 ^ w * (64 ^ d * n)) := by
          rw [Nat.zero_add, pow_add, Nat.mul_comm, Nat.mul_assoc]
      _ = lowBytes w 0 := lowBytes_add_mul_pow w 0 _
      _ = _ := by
          rw [lowBytes_of_zero, min_eq_right hw, List.drop_eq_nil_of_le ((lowBytes_length w n).trans_le hw),
            List.nil_append]

/-- A shift to the right by `c` bytes. -/
theorem lowBytes_div_pow {w n : Nat} (hn : n < 64 ^ w) (c : Nat) :
    lowBytes w (n / 64 ^ c) = List.replicate (min c w) 0 ++ (lowBytes w n).take (w - c) := by
  obtain hc | hw := Nat.le_total c w
  · obtain ⟨j, rfl⟩ := Nat.exists_eq_add_of_le' hc
    have hlow : n / 64 ^ c < 64 ^ j := Nat.div_lt_of_lt_mul (by rwa [← pow_add, Nat.add_comm c j])
    calc lowBytes (j + c) (n / 64 ^ c) = lowBytes (c + j) (n / 64 ^ c + 64 ^ j * 0) := by
          rw [Nat.add_comm j c, Nat.mul_zero, Nat.add_zero]
      _ = lowBytes c 0 ++ lowBytes j (n / 64 ^ c) := lowBytes_append hlow c 0
      _ = _ := by rw [lowBytes_of_zero, min_eq_left hc, Nat.add_sub_cancel, lowBytes_take]
  · have hzero : n / 64 ^ c = 0 := Nat.div_eq_of_lt (hn.trans_le (Nat.pow_le_pow_right (by decide) hw))
    rw [hzero, lowBytes_of_zero, min_eq_right hw, Nat.sub_eq_zero_of_le hw, List.take_zero, List.append_nil]

/-- A number of `c + j` bytes with its `c` high bytes brought to the low end. -/
theorem lowBytes_rotate {c j n : Nat} (hn : n < 64 ^ (c + j)) :
    lowBytes (c + j) (n / 64 ^ j + 64 ^ c * (n % 64 ^ j)) =
      (lowBytes (c + j) n).drop c ++ (lowBytes (c + j) n).take c := by
  have hhigh : n / 64 ^ j < 64 ^ c := Nat.div_lt_of_lt_mul (by rwa [← pow_add, Nat.add_comm j c])
  rw [lowBytes_drop, lowBytes_take, Nat.add_comm c j, lowBytes_append hhigh, lowBytes_mod_pow]

/-- A number of ten bytes with its `c` high bytes brought to the low end. -/
def rotated (n c : Nat) : Nat := n / 64 ^ (10 - c) + 64 ^ c * (n % 64 ^ (10 - c))

theorem rotated_bytes {n c : Nat} (hn : n < 64 ^ 10) (hc : c ≤ 10) :
    lowBytes 10 (rotated n c) = (lowBytes 10 n).drop c ++ (lowBytes 10 n).take c := by
  have hsum : c + (10 - c) = 10 := Nat.add_sub_cancel' hc
  have hrotate := lowBytes_rotate (c := c) (j := 10 - c) (hsum.symm ▸ hn)
  rwa [hsum] at hrotate

/-- A rotation by all ten bytes is one by none. -/
theorem rotated_ten {n : Nat} (hn : n < 64 ^ 10) : rotated n 10 = rotated n 0 := by
  have hten : rotated n 10 = n := by
    rw [rotated, Nat.sub_self, pow_zero, Nat.div_one, Nat.mod_one, Nat.mul_zero, Nat.add_zero]
  have hnone : rotated n 0 = n := by
    rw [rotated, Nat.sub_zero, Nat.div_eq_of_lt hn, Nat.mod_eq_of_lt hn, pow_zero, Nat.one_mul, Nat.zero_add]
  rw [hten, hnone]

/-! ## Words -/

theorem two_pow_thirty : 2 ^ 30 = 64 ^ 5 := by decide

theorem two_pow_sixty : 2 ^ 60 = 64 ^ 10 := by decide

theorem Word.bytes_eq_lowBytes (w : Word) : w.bytes = lowBytes 5 w.magnitude := rfl

theorem Word.magnitude_lt_pow (w : Word) : w.magnitude < 64 ^ 5 := w.magnitude_lt

@[simp] theorem word_bytes (b : Bool) (m : Nat) : (word b m).bytes = lowBytes 5 m := by
  rw [Word.bytes_eq_lowBytes, word_magnitude, two_pow_thirty, lowBytes_mod_pow]

end Sys2Proof
end

section
/-! The shifts (43_shift.md R310 to R319): obligations O37 to O41. -/

namespace Sys2Proof.Machine

/-! ## The pair (R311) -/

@[simp] theorem State.warnAll_pair (s : State) (ws : List Warning) : (s.warnAll ws).pair = s.pair := rfl

theorem State.pair_eq (s : State) : s.pair = s.regs.rX.magnitude + 64 ^ 5 * s.regs.rA.magnitude := by
  rw [Nat.add_comm, Nat.mul_comm, ← two_pow_thirty]
  rfl

theorem State.pair_lt (s : State) : s.pair < 64 ^ 10 := by
  have hA := s.regs.rA.magnitude_lt
  have hX := s.regs.rX.magnitude_lt
  rw [State.pair_eq]
  omega

theorem State.pair_bytes (s : State) : s.regs.rA.bytes ++ s.regs.rX.bytes = lowBytes 10 s.pair := by
  rw [State.pair_eq, lowBytes_append s.regs.rX.magnitude_lt_pow 5]
  rfl

/-- Any number written to the pair leaves its ten low bytes there. -/
theorem State.setPair_lowBytes (s : State) (n : Nat) :
    (s.setPair n).regs.rA.bytes ++ (s.setPair n).regs.rX.bytes = lowBytes 10 n := by
  rw [State.setPair_eq, word_bytes, word_bytes, two_pow_thirty, lowBytes_mod_pow, ← lowBytes_add]

theorem State.setPair_pair (s : State) {n : Nat} (h : n < 64 ^ 10) : (s.setPair n).pair = n := by
  rw [State.setPair_eq]
  exact word_halves_magnitude _ _ (by rwa [two_pow_sixty])

/-- The second write to the pair is the one that counts. -/
theorem State.setPair_setPair (s : State) (a b : Nat) : (s.setPair a).setPair b = s.setPair b := by
  rw [State.setPair_eq, State.setPair_eq, State.setPair_eq, word_neg, word_neg]

/-! ## The counts (R310) -/

/-- Clamping the count to 10 bytes does not change what a shift to the left leaves in 10 bytes or fewer. -/
theorem mul_pow_shiftCount_mod {w : Nat} (hw : w ≤ 10) (a n : Nat) :
    a * 64 ^ shiftCount n % 64 ^ w = a * 64 ^ n % 64 ^ w := by
  obtain hn | hn := Nat.le_total n 10
  · rw [shiftCount, Int.toNat_natCast, min_eq_left hn]
  · have hclear (c : Nat) (hc : w ≤ c) : a * 64 ^ c % 64 ^ w = 0 :=
      Nat.mod_eq_zero_of_dvd ((pow_dvd_pow 64 hc).mul_left a)
    rw [shiftCount, Int.toNat_natCast, min_eq_right hn, hclear 10 hw, hclear n (hw.trans hn)]

/-- Clamping the count to 10 bytes does not change what a shift to the right leaves of 10 bytes or fewer. -/
theorem div_pow_shiftCount {w a : Nat} (hw : w ≤ 10) (ha : a < 64 ^ w) (n : Nat) :
    a / 64 ^ shiftCount n = a / 64 ^ n := by
  obtain hn | hn := Nat.le_total n 10
  · rw [shiftCount, Int.toNat_natCast, min_eq_left hn]
  · have hclear (c : Nat) (hc : w ≤ c) : a / 64 ^ c = 0 :=
      Nat.div_eq_of_lt (ha.trans_le (Nat.pow_le_pow_right (by decide) hc))
    rw [shiftCount, Int.toNat_natCast, min_eq_right hn, hclear 10 hw, hclear n (hw.trans hn)]

/-! ## The six operations on a count that is not negative -/

theorem State.shiftLeftA_eq (s : State) (n : Nat) :
    s.shiftLeftA n = s.setAMag (s.regs.rA.magnitude * 64 ^ n % 64 ^ 5) := by
  rw [← mul_pow_shiftCount_mod (by decide)]
  rfl

theorem State.shiftRightA_eq (s : State) (n : Nat) : s.shiftRightA n = s.setAMag (s.regs.rA.magnitude / 64 ^ n) := by
  rw [← div_pow_shiftCount (by decide) s.regs.rA.magnitude_lt_pow]
  rfl

theorem State.shiftLeftPair_eq (s : State) (n : Nat) : s.shiftLeftPair n = s.setPair (s.pair * 64 ^ n % 64 ^ 10) := by
  rw [State.shiftLeftPair, two_pow_sixty, mul_pow_shiftCount_mod (by decide)]

theorem State.shiftRightPair_eq (s : State) (n : Nat) : s.shiftRightPair n = s.setPair (s.pair / 64 ^ n) := by
  rw [State.shiftRightPair, div_pow_shiftCount (by decide) s.pair_lt]

theorem State.rotateLeftPair_eq (s : State) (n : Nat) : s.rotateLeftPair n = s.setPair (rotated s.pair (n % 10)) := by
  have hsplit : 64 ^ 10 = 64 ^ (10 - n % 10) * 64 ^ (n % 10) := by rw [← pow_add, Nat.sub_add_cancel (by omega)]
  rw [State.rotateLeftPair, rotateCount, Int.toNat_natCast, two_pow_sixty, hsplit, Nat.mul_mod_mul_right, rotated,
    Nat.add_comm, Nat.mul_comm]

theorem State.rotateRightPair_eq (s : State) (n : Nat) :
    s.rotateRightPair n = s.setPair (rotated s.pair (10 - n % 10)) := by
  rw [State.rotateRightPair, rotateCount, Int.toNat_natCast, rotated, Nat.sub_sub_self (by omega), Nat.mul_comm]

/-! ## The six instructions -/

section Exec
variable (m : AddrSpec) (s : State)

theorem exec_sla : exec (.sla m) s = .next (s.shift m State.shiftLeftA) := rfl
theorem exec_sra : exec (.sra m) s = .next (s.shift m State.shiftRightA) := rfl
theorem exec_slax : exec (.slax m) s = .next (s.shift m State.shiftLeftPair) := rfl
theorem exec_srax : exec (.srax m) s = .next (s.shift m State.shiftRightPair) := rfl
theorem exec_slc : exec (.slc m) s = .next (s.shift m State.rotateLeftPair) := rfl
theorem exec_src : exec (.src m) s = .next (s.shift m State.rotateRightPair) := rfl

end Exec

theorem State.shift_of_count {m : AddrSpec} {s : State} {n : Nat} (h : s.mRaw m = n) (body : State → Int → State) :
    s.shift m body = body (s.warnAll (indexWarnings m)) n := by
  rw [State.shift_count s m body (by omega), h]

/-- A direct count is M itself, and gives no warning. -/
theorem State.shift_direct (s : State) (c : Nat) (body : State → Int → State) :
    s.shift ⟨false, c, 0⟩ body = body s c := by
  have hM : s.mRaw ⟨false, c, 0⟩ = c := Int.add_zero _
  rw [State.shift_of_count hM]
  exact congrArg (body · _) s.warnAll_nil

theorem State.shift_of_negative {m : AddrSpec} {s : State} (h : s.mRaw m < 0) (body : State → Int → State) :
    s.shift m body = { s with
      trace := s.trace ++ (if 6 < m.idx then [.warning .w2] else []) ++ [.warning .w6] } := by
  rw [State.shift_negative s m body h, State.warnAll, List.map_append, map_indexWarnings, ← List.append_assoc]
  rfl

/-- All six are the shift template. -/
theorem exec_eq_shift (m : AddrSpec) (s : State) : ∀ i ∈ [Instr.sla m, .sra m, .slax m, .srax m, .slc m, .src m],
    ∃ body : State → Int → State, exec i s = .next (s.shift m body) := by
  simp only [List.forall_mem_cons]
  exact ⟨⟨_, exec_sla m s⟩, ⟨_, exec_sra m s⟩, ⟨_, exec_slax m s⟩, ⟨_, exec_srax m s⟩, ⟨_, exec_slc m s⟩,
    ⟨_, exec_src m s⟩, nofun⟩

/-- Settles O40: a negative count turns the shift template into the warning. -/
theorem negativeShiftCountDoesNothing : Obligations.NegativeShiftCountDoesNothing := by
  intro m s hneg i hi
  obtain ⟨body, hexec⟩ := exec_eq_shift m s i hi
  rw [hexec, State.shift_of_negative hneg]

/-! ## What a write to rA or to the pair leaves -/

section Writes
variable {i : Instr} {m : AddrSpec} {s : State} {n : Nat} {l : List Nat}

theorem bytesOfA_of_setAMag (hexec : exec i s = .next ((s.warnAll (indexWarnings m)).setAMag n))
    (hl : lowBytes 5 n = l) :
    ∃ t : State, exec i s = .next t ∧ t.regs.rA.bytes = l ∧ t.regs.rA.neg = s.regs.rA.neg ∧
      t = { s with
        regs := { s.regs with rA := t.regs.rA }, trace := s.trace ++ (if 6 < m.idx then [.warning .w2] else []) } := by
  rw [State.setAMag_eq, State.warnAll, map_indexWarnings] at hexec
  exact ⟨_, hexec, (word_bytes _ n).trans hl, rfl, rfl⟩

theorem bytesOfPair_of_setPair (hexec : exec i s = .next ((s.warnAll (indexWarnings m)).setPair n))
    (hl : lowBytes 10 n = l) :
    ∃ t : State, exec i s = .next t ∧ t.regs.rA.bytes ++ t.regs.rX.bytes = l ∧
      t.regs.rA.neg = s.regs.rA.neg ∧ t.regs.rX.neg = s.regs.rX.neg ∧
      t = { s with
        regs := { s.regs with rA := t.regs.rA, rX := t.regs.rX },
        trace := s.trace ++ (if 6 < m.idx then [.warning .w2] else []) } := by
  refine ⟨_, hexec, (State.setPair_lowBytes _ n).trans hl, ?_⟩
  rw [State.setPair_eq, State.warnAll, map_indexWarnings]
  exact ⟨rfl, rfl, rfl⟩

end Writes

/-! ## The obligations on the bytes -/

/-- Settles O37: a shift of rA multiplies its magnitude by a power of 64, or divides it by one. -/
theorem shiftsOfAMoveItsBytes : Obligations.ShiftsOfAMoveItsBytes := by
  intro m s n hM
  constructor
  · refine bytesOfA_of_setAMag (by rw [exec_sla, State.shift_of_count hM, State.shiftLeftA_eq]) ?_
    rw [lowBytes_mod_pow, lowBytes_mul_pow, State.warnAll_regs, Word.bytes_eq_lowBytes]
  · refine bytesOfA_of_setAMag (by rw [exec_sra, State.shift_of_count hM, State.shiftRightA_eq]) ?_
    rw [lowBytes_div_pow (Word.magnitude_lt_pow _), State.warnAll_regs, Word.bytes_eq_lowBytes]

/-- Settles O38: a shift of the pair multiplies its 60-bit number by a power of 64, or divides it by one. -/
theorem shiftsOfThePairMoveItsBytes : Obligations.ShiftsOfThePairMoveItsBytes := by
  intro m s n hM
  rw [State.pair_bytes]
  constructor
  · refine bytesOfPair_of_setPair (by rw [exec_slax, State.shift_of_count hM, State.shiftLeftPair_eq]) ?_
    rw [lowBytes_mod_pow, lowBytes_mul_pow, State.warnAll_pair]
  · refine bytesOfPair_of_setPair (by rw [exec_srax, State.shift_of_count hM, State.shiftRightPair_eq]) ?_
    rw [lowBytes_div_pow (State.pair_lt _), State.warnAll_pair]

/-- Settles O39: both rotations bring high bytes of the pair to the low end: SLC n mod 10 of them, SRC all but these. -/
theorem rotationsOfThePairRotateItsBytes : Obligations.RotationsOfThePairRotateItsBytes := by
  intro m s n hM
  rw [State.pair_bytes]
  constructor
  · refine bytesOfPair_of_setPair (by rw [exec_slc, State.shift_of_count hM, State.rotateLeftPair_eq]) ?_
    rw [rotated_bytes (State.pair_lt _) (by omega), State.warnAll_pair]
  · refine bytesOfPair_of_setPair (by rw [exec_src, State.shift_of_count hM, State.rotateRightPair_eq]) ?_
    rw [rotated_bytes (State.pair_lt _) (Nat.sub_le 10 _), State.warnAll_pair]

/-! ## Composition (R319) -/

theorem State.shiftLeftPair_add (s : State) (c1 c2 : Nat) :
    (s.shiftLeftPair c1).shiftLeftPair c2 = s.shiftLeftPair (c1 + c2 : Nat) := by
  have hfits : s.pair * 64 ^ c1 % 64 ^ 10 < 64 ^ 10 := Nat.mod_lt _ (by positivity)
  rw [State.shiftLeftPair_eq, State.shiftLeftPair_eq, State.shiftLeftPair_eq, State.setPair_setPair,
    State.setPair_pair _ hfits, Nat.mod_mul_mod, Nat.mul_assoc, ← pow_add]

theorem State.shiftRightPair_add (s : State) (c1 c2 : Nat) :
    (s.shiftRightPair c1).shiftRightPair c2 = s.shiftRightPair (c1 + c2 : Nat) := by
  have hfits : s.pair / 64 ^ c1 < 64 ^ 10 := (Nat.div_le_self _ _).trans_lt s.pair_lt
  rw [State.shiftRightPair_eq, State.shiftRightPair_eq, State.shiftRightPair_eq, State.setPair_setPair,
    State.setPair_pair _ hfits, Nat.div_div_eq_div_mul, ← pow_add]

theorem State.rotateLeftPair_eq_rotateRightPair (s : State) {c : Nat} (hc : c ≤ 10) :
    s.rotateLeftPair c = s.rotateRightPair (10 - c : Nat) := by
  rw [State.rotateLeftPair_eq, State.rotateRightPair_eq]
  by_cases hturn : c % 10 = 0
  · have hback : 10 - (10 - c) % 10 = 10 := by omega
    rw [hturn, hback, rotated_ten s.pair_lt]
  · have hback : 10 - (10 - c) % 10 = c % 10 := by omega
    rw [hback]

/-- Settles O41: powers of 64 multiply, and a rotation to the left is the opposite one by the bytes that are left. -/
theorem shiftCountsAdd : Obligations.ShiftCountsAdd := by
  refine ⟨fun c1 c2 s t u ht hu => ?_, fun c1 c2 s t u ht hu => ?_, fun c s hc => ?_⟩
  · rw [exec_slax, State.shift_direct] at ht hu ⊢
    cases ht
    rw [← hu, State.shiftLeftPair_add]
  · rw [exec_srax, State.shift_direct] at ht hu ⊢
    cases ht
    rw [← hu, State.shiftRightPair_add]
  · rw [exec_slc, exec_src, State.shift_direct, State.shift_direct, State.rotateLeftPair_eq_rotateRightPair s hc]

end Sys2Proof.Machine
end

section
/-! NOP, NUM, CHAR and HLT (44_special.md R330 to R334): obligations O42 to O45. -/

namespace Sys2Proof

/-- Bytes that are given as a list, read one by one. -/
theorem Word.byte_of_bytes {w : Word} {b : Nat → Nat} (h : w.bytes = [b 1, b 2, b 3, b 4, b 5]) {k : Nat} (hk : 1 ≤ k)
    (hk5 : k ≤ 5) : w.byte k = b k := by
  simp only [Word.bytes, List.cons.injEq, and_true] at h
  obtain ⟨h1, h2, h3, h4, h5⟩ := h
  interval_cases k <;> assumption

end Sys2Proof

namespace Sys2Proof.Machine

/-! ## The four instructions -/

section Exec
variable (m : AddrSpec) (f : Nat) (s : State)

theorem exec_nop : exec (.nop m f) s = .next s := rfl
theorem exec_num : exec (.num m) s = .next s.toBinary := rfl
theorem exec_char : exec (.char m) s = .next s.toDecimal := rfl
theorem exec_hlt : exec (.hlt m) s = .next { s with rs := .halt } := rfl

end Exec

theorem State.toBinary_eq (s : State) : s.toBinary = { s with regs := { s.regs with
    rA := word s.regs.rA.neg (decimalOf (s.regs.rA.bytes ++ s.regs.rX.bytes)) } } :=
  rfl

/-! ## Decimal digits and their codes -/

theorem digitCode_lt {d : Nat} (hd : d < 10) : digitCode d < 64 := by
  rw [digitCode]
  omega

/-- The code of the digit 0 is a multiple of 10, so a code read mod 10 is its digit. -/
theorem digitCode_mod (d : Nat) : digitCode d % 10 = d % 10 := by
  rw [digitCode]
  omega

/-- Reading the codes of digits is reading the digits. -/
theorem decimalOf_map_digitCode (ds : List Nat) : decimalOf (ds.map digitCode) = decimalOf ds := by
  simp only [decimalOf, List.foldl_map, digitCode_mod]

/-- A number below `10 ^ 10` is read back from its ten digits: each digit completes the number of those before it. -/
theorem decimalOf_decimalDigits {n : Nat} (hn : n < 10 ^ 10) : decimalOf (decimalDigits n) = n := by
  have hfirst : n / 10 ^ 9 % 10 = n / 10 ^ 9 := Nat.mod_eq_of_lt (Nat.div_lt_of_lt_mul hn)
  have hnext (k : Nat) : 10 * (n / 10 ^ (k + 1)) + n / 10 ^ k % 10 = n / 10 ^ k := by
    rw [pow_succ, ← Nat.div_div_eq_div_mul, Nat.div_add_mod]
  have hnext1 : 10 * (n / 10 ^ 2) + n / 10 % 10 = n / 10 := hnext 1
  simp only [decimalOf, decimalDigits, List.foldl, Nat.mod_mod, Nat.mul_zero, Nat.zero_add]
  rw [hfirst, hnext 8, hnext 7, hnext 6, hnext 5, hnext 4, hnext 3, hnext 2, hnext1, Nat.div_add_mod]

/-- Each of the ten bytes that are read, with its power of ten. -/
theorem decimalOf_bytes_append_bytes (v w : Word) : decimalOf (v.bytes ++ w.bytes) =
    v.byte 1 % 10 * 10 ^ 9 + v.byte 2 % 10 * 10 ^ 8 + v.byte 3 % 10 * 10 ^ 7 + v.byte 4 % 10 * 10 ^ 6 +
      v.byte 5 % 10 * 10 ^ 5 + w.byte 1 % 10 * 10 ^ 4 + w.byte 2 % 10 * 10 ^ 3 + w.byte 3 % 10 * 10 ^ 2 +
      w.byte 4 % 10 * 10 + w.byte 5 % 10 := by
  simp only [decimalOf, Word.bytes, List.cons_append, List.nil_append, List.foldl]
  ring

/-- Five of the digits of `n` fit a word as character codes. -/
theorem word_digitCodes_bytes (b : Bool) (n1 n2 n3 n4 n5 : Nat) :
    (word b (ofBytes ([n1 % 10, n2 % 10, n3 % 10, n4 % 10, n5 % 10].map digitCode))).bytes =
      [n1 % 10, n2 % 10, n3 % 10, n4 % 10, n5 % 10].map digitCode :=
  have hcode (n : Nat) : digitCode (n % 10) < 64 := digitCode_lt (Nat.mod_lt n (by decide))
  word_ofBytes_bytes b _ _ _ _ _ (hcode n1) (hcode n2) (hcode n3) (hcode n4) (hcode n5)

theorem State.toDecimal_rA_bytes (s : State) :
    s.toDecimal.regs.rA.bytes = ((decimalDigits s.regs.rA.magnitude).map digitCode).take 5 :=
  word_digitCodes_bytes ..

theorem State.toDecimal_rX_bytes (s : State) :
    s.toDecimal.regs.rX.bytes = ((decimalDigits s.regs.rA.magnitude).map digitCode).drop 5 :=
  word_digitCodes_bytes ..

theorem State.toDecimal_bytes (s : State) :
    s.toDecimal.regs.rA.bytes ++ s.toDecimal.regs.rX.bytes = (decimalDigits s.regs.rA.magnitude).map digitCode := by
  rw [State.toDecimal_rA_bytes, State.toDecimal_rX_bytes, List.take_append_drop]

/-- NUM reads back what CHAR wrote (R334): a magnitude of 30 bits has at most ten decimal digits. -/
theorem State.toDecimal_toBinary_rA (s : State) : s.toDecimal.toBinary.regs.rA = s.regs.rA := by
  have hten : s.regs.rA.magnitude < 10 ^ 10 := s.regs.rA.magnitude_lt.trans (by decide)
  calc s.toDecimal.toBinary.regs.rA
      = word s.regs.rA.neg (decimalOf (s.toDecimal.regs.rA.bytes ++ s.toDecimal.regs.rX.bytes)) := rfl
    _ = word s.regs.rA.neg s.regs.rA.magnitude := by
        rw [State.toDecimal_bytes, decimalOf_map_digitCode, decimalOf_decimalDigits hten]
    _ = s.regs.rA := word_eta _

/-! ## The obligations -/

/-- Settles O42: neither instruction evaluates its address (R330, R333). -/
theorem nopChangesNothingAndHltHalts : Obligations.NopChangesNothingAndHltHalts := ⟨exec_nop, exec_hlt⟩

/-- Settles O43: the fold over the ten bytes, written out as a sum. -/
theorem numReadsTenDecimalDigits : Obligations.NumReadsTenDecimalDigits := by
  intro m s
  rw [exec_num, State.toBinary_eq, decimalOf_bytes_append_bytes]
  rfl

/-- Settles O44: the bytes of each register are its half of the list of codes, read one by one. -/
theorem charWritesTenDigitCodes : Obligations.CharWritesTenDigitCodes := by
  intro m s
  refine ⟨s.toDecimal, exec_char m s, fun k hk hk5 => ⟨?_, ?_⟩, rfl, rfl, rfl⟩
  · refine Word.byte_of_bytes (b := fun k => digitCode (s.regs.rA.magnitude / 10 ^ (10 - k) % 10)) ?_ hk hk5
    rw [State.toDecimal_rA_bytes]
    rfl
  · refine Word.byte_of_bytes (b := fun k => digitCode (s.regs.rA.magnitude / 10 ^ (5 - k) % 10)) ?_ hk hk5
    simp [State.toDecimal_rX_bytes, decimalDigits]

/-- Settles O45: the codes CHAR wrote are read as the digits they stand for, and neither instruction writes a sign. -/
theorem numAfterCharRestoresA : Obligations.NumAfterCharRestoresA := fun m n s =>
  ⟨s.toDecimal, s.toDecimal.toBinary, exec_char m s, exec_num n s.toDecimal, s.toDecimal_toBinary_rA, rfl⟩

end Sys2Proof.Machine
end

section
/-! The block mover (45_move.md R340 to R342): obligations O46 and O47. -/

namespace Sys2Proof.Machine

/-! ## Clamped addresses and cursors -/

theorem clampAddr_val_of_nonneg {n : Int} (hn : 0 ≤ n) :
    (clampAddr n).val = if n ≤ 3999 then n.toNat else 3999 := by
  unfold clampAddr
  by_cases hin : n ≤ 3999
  · rw [dif_pos ⟨hn, hin⟩, if_pos hin]
  · rw [dif_neg fun h => hin h.2, if_neg hin]

theorem clampAddr_natCast_val (n : Nat) : (clampAddr n).val = if n ≤ 3999 then n else 3999 := by
  rw [clampAddr_val_of_nonneg (Int.natCast_nonneg n), Int.toNat_natCast]
  exact if_congr Nat.cast_le_ofNat rfl rfl

/-- Of 4000 words in a row from `b` on, only one lies where the cursor from `a` stands after `j` words. -/
theorem Addr.advance_eq_advance_iff (a b : Addr) (j : Nat) {i : Nat} (hi : i < 4000) :
    Addr.advance a j = Addr.advance b i ↔ (a.val + 4000 + j - b.val) % 4000 = i := by
  have hb := b.isLt
  rw [Fin.ext_iff, Addr.advance_val, Addr.advance_val]
  omega

/-- No two of 4000 words in a row share an address. -/
theorem Addr.advance_ne_advance (a : Addr) {i j : Nat} (hij : i < j) (hj : j < 4000) :
    Addr.advance a i ≠ Addr.advance a j := by
  rw [Ne, Addr.advance_eq_advance_iff a a i hj]
  omega

/-! ## The words of a move (R341) -/

/-- Word `j` of the destination is what word `j` of the source was after the first `j` words had moved. -/
theorem State.moveWords_readMem_advance (s : State) (src dst : Addr) {j n : Nat} (h : Memory.wf s.mem = true)
    (hn : n ≤ 4000) (hj : j < n) :
    (s.moveWords src dst n).readMem (Addr.advance dst j) = (s.moveWords src dst j).readMem (Addr.advance src j) := by
  induction n with
  | zero => exact absurd hj (Nat.not_lt_zero j)
  | succ n ih =>
    have hwf := s.moveWords_wf src dst n h
    rw [State.moveWords_succ]
    obtain hlt | rfl := Nat.lt_succ_iff_lt_or_eq.mp hj
    · rw [State.writeMem_readMem_other _ _ _ _ hwf (Addr.advance_ne_advance dst hlt hn), ih (by omega) hlt]
    · exact State.writeMem_readMem_same _ _ _ hwf

/-- Word `j` of the source is read as overwritten exactly where it lies among the first `j` words of the destination,
and these keep what they got. -/
theorem State.moveWords_word (s : State) (src dst : Addr) {j n : Nat} (h : Memory.wf s.mem = true) (hn : n ≤ 4000)
    (hj : j < n) :
    (s.moveWords src dst n).readMem (Addr.advance dst j) =
      if (src.val + 4000 + j - dst.val) % 4000 < j then (s.moveWords src dst n).readMem (Addr.advance src j)
      else s.readMem (Addr.advance src j) := by
  rw [State.moveWords_readMem_advance s src dst h hn hj]
  split
  next hpast =>
    generalize hi : (src.val + 4000 + j - dst.val) % 4000 = i at hpast
    rw [(Addr.advance_eq_advance_iff src dst j (by omega)).mpr hi,
      State.moveWords_readMem_advance s src dst h (by omega) hpast,
      State.moveWords_readMem_advance s src dst h hn (by omega)]
  next hfresh =>
    refine State.moveWords_other s src dst j h _ fun i hi heq => hfresh ?_
    rwa [(Addr.advance_eq_advance_iff src dst j (by omega)).mp heq]

/-! ## The instruction -/

section Exec
variable (m : AddrSpec) {f : Nat} (s : State)

theorem exec_move : exec (.move m f) s = execMove m f s := rfl

theorem exec_move_zero : exec (.move m 0) s = .next s := rfl

theorem exec_move_of_negative (hf : f ≠ 0) (hM : s.mRaw m < 0) :
    exec (.move m f) s = .next (s.warnAll (indexWarnings m ++ [.w6])) := by
  rw [exec_move, execMove, if_neg hf, if_pos hM]

theorem exec_move_of_nonneg (hf : f ≠ 0) (hM : 0 ≤ s.mRaw m) :
    exec (.move m f) s = .next ((s.warnAll (s.moveWarnings m)).moveBlock (clampAddr (s.mRaw m)) f) := by
  rw [exec_move, execMove, if_neg hf, if_neg (Int.not_lt.mpr hM)]

theorem State.moveBlock_eq (src : Addr) : s.moveBlock src f = { s with
    mem := (s.moveWords src s.moveDest f).mem,
    regs := { s.regs with rI1 := ⟨false, BitVec.ofNat 30 ((s.moveDest.val + f) % 4000)⟩ } } := by
  rw [State.moveBlock, State.moveWords_eq]
  rfl

theorem map_moveWarnings : (s.moveWarnings m).map Event.warning =
    (if 6 < m.idx then [.warning .w2] else []) ++ (if 3999 < s.mRaw m then [.warning .w3] else []) ++
      (if s.regs.rI1.val < 0 then [.warning .w7] else []) ++
      (if 3999 < s.regs.rI1.magnitude then [.warning .w3] else []) := by
  rw [State.moveWarnings, List.map_append, List.map_append, List.map_append, map_indexWarnings, map_aboveRange,
    map_aboveRange, apply_ite (List.map Event.warning)]
  norm_cast

end Exec

/-! ## The obligations -/

/-- Settles O46: the loop's law for one word, between the two clamped addresses. -/
theorem moveCopiesWordByWord : Obligations.MoveCopiesWordByWord := by
  intro m f s hwf hf hf63 hM
  rw [← clampAddr_val_of_nonneg hM, ← clampAddr_natCast_val]
  refine ⟨_, exec_move_of_nonneg m s (by omega) hM, fun j hj => ?_, fun a ha => ?_, ?_⟩
  · exact (s.warnAll _).moveWords_word _ _ hwf (by omega) hj
  · exact (s.warnAll _).moveWords_other _ _ _ hwf a fun j hj heq => ha j hj (congrArg Fin.val heq)
  · rw [State.moveBlock_eq, State.warnAll, map_moveWarnings]
    simp only [List.append_assoc]
    rfl

/-- Settles O47: both ways out before the loop. -/
theorem moveWithNoWordsOrNegativeSourceDoesNothing : Obligations.MoveWithNoWordsOrNegativeSourceDoesNothing := by
  intro m f s
  refine ⟨fun hf => ?_, fun hf hM => ?_⟩
  · rw [hf, exec_move_zero]
  · rw [exec_move_of_negative m s hf hM, State.warnAll, List.map_append, map_indexWarnings, ← List.append_assoc]
    rfl

end Sys2Proof.Machine
end

section
/-! The stream adapters (46_io.md R380 to R386): obligations O53, O54, O55 and O56. -/

namespace Sys2Proof.Machine

/-! ## An answered call -/

/-- An answer of an adapter call on `d`: memory and the descriptor become `mem` and `e`, `out` leaves the core, and the new
remaining count is returned (R380). -/
def State.answered (s : State) (d : Device) (mem : Memory) (e : Desc) (out : List Event) : State :=
  { s with
    mem := mem, desc := s.desc.set d.val e, trace := s.trace ++ (out ++ [.adapterReturned d e.remain]) }

/-- A descriptor whose mode and direction are those an adapter is for (R383 to R386). -/
inductive Desc.Serves : Desc → AdapterCall → Prop
  | readWords {r : Nat} {a : Addr} (n : Nat) : Desc.Serves (.words .output r a) (.readWords n)
  | readChars {r : Nat} {a : Addr} {p : Fin 5} {b : Word} (n : Nat) : Desc.Serves (.chars .output r a p b) (.readChars n)
  | writeWords {r : Nat} {a : Addr} (ws : List (BitVec 32)) : Desc.Serves (.words .input r a) (.writeWords ws)
  | writeChars {r : Nat} {a : Addr} {p : Fin 5} {b : Word} (cs : List Nat) :
    Desc.Serves (.chars .input r a p b) (.writeChars cs)

/-- The descriptor of a character transfer that stands at a cursor. -/
def CharCursor.desc (c : CharCursor) (dir : Direction) (n : Nat) : Desc := .chars dir n c.addr c.pos c.buf

section Answers
variable {d : Device} {s t : State} {c : AdapterCall} {n r : Nat} {a : Addr} {cur : CharCursor}

theorem State.adapterUnits_eq {e : Desc} (hd : s.descOf d = e) : s.adapterUnits d c = min c.count e.remain := by
  rw [State.adapterUnits, hd]

/-- The units of a list a transfer has room for are the list up to the remaining count. -/
theorem take_min_length {α : Type} (l : List α) (r : Nat) : l.take (min l.length r) = l.take r := by
  rw [min_comm, ← List.take_eq_take_min]

theorem State.adapterUnits_writeChars (s : State) (d : Device) (xs : List Nat) :
    s.adapterUnits d (.writeChars xs) = min xs.length (s.descOf d).remain := rfl

theorem State.answered_descOf (s : State) (d e : Device) (mem : Memory) (x : Desc) (out : List Event) :
    (s.answered d mem x out).descOf e = if e = d then x else s.descOf e :=
  s.setDesc_descOf d e x

theorem State.answered_descOf_self (s : State) (d : Device) (mem : Memory) (x : Desc) (out : List Event) :
    (s.answered d mem x out).descOf d = x := by
  rw [State.answered_descOf, if_pos rfl]

/-- A call that moves nothing leaves memory and the descriptor as they were. -/
theorem adapterStep_of_no_units (h : s.adapterUnits d c = 0) :
    adapterStep d c s = .next (s.answered d s.mem (s.descOf d) []) := by
  have hsame : s.desc.set d.val (s.descOf d) = s.desc := Vector.set_getElem_self d.isLt
  rw [State.answered, hsame]
  exact if_pos h

/-- A call that moves units is answered only where the descriptor serves it (E2 of R392). -/
theorem adapterStep_next_serves (h : adapterStep d c s = .next t) :
    s.adapterUnits d c = 0 ∨ (s.descOf d).Serves c := by
  by_cases hk : s.adapterUnits d c = 0
  · exact .inl hk
  · right
    simp only [adapterStep, if_neg hk] at h
    split at h
    · next hd => rw [hd]; exact .readWords _
    · next hd => rw [hd]; exact .readChars _
    · next hd => rw [hd]; exact .writeWords _
    · next hd => rw [hd]; exact .writeChars _
    · cases h

theorem adapterStep_readWords (hd : s.descOf d = .words .output r a) (hk : 1 ≤ min n r) :
    adapterStep d (.readWords n) s = .next (s.answered d s.mem
      (.words .output (r - min n r) (Addr.advance a (min n r)))
      [.wordsDelivered d ((List.range (min n r)).map fun j =>
        (Memory.read s.mem (Addr.advance a j).val).toContainer)]) := by
  have hunits : s.adapterUnits d (.readWords n) = min n r := State.adapterUnits_eq hd
  have hmoves : min n r ≠ 0 := by omega
  simp only [adapterStep, hunits, if_neg hmoves, hd, readWordsFrom_words, readWordsFrom_cursor]
  simp [State.answered, State.emit, State.setDesc, Desc.remain]

theorem adapterStep_readChars (hd : s.descOf d = cur.desc .output r) (hk : 1 ≤ min n r) :
    adapterStep d (.readChars n) s = .next (s.answered d s.mem
      ((readCharsFrom s.mem cur (min n r)).2.desc .output (r - min n r))
      [.charsDelivered d (readCharsFrom s.mem cur (min n r)).1]) := by
  have hunits : s.adapterUnits d (.readChars n) = min n r := State.adapterUnits_eq hd
  have hmoves : min n r ≠ 0 := by omega
  simp only [adapterStep, hunits, if_neg hmoves, hd, CharCursor.desc]
  simp [State.answered, State.emit, State.setDesc, Desc.remain]

/-- The given containers go into memory as far as the remaining count reaches, also where this is nowhere. -/
theorem adapterStep_writeWords (ws : List (BitVec 32)) (hd : s.descOf d = .words .input r a) :
    adapterStep d (.writeWords ws) s = .next (s.answered d (writeWordsTo s.mem a (ws.take r)).1
      (.words .input (r - min ws.length r) (Addr.advance a (min ws.length r))) []) := by
  have hunits : s.adapterUnits d (.writeWords ws) = min ws.length r := State.adapterUnits_eq hd
  have htake : ws.take (min ws.length r) = ws.take r := take_min_length _ _
  by_cases hk : min ws.length r = 0
  · rw [adapterStep_of_no_units (hunits.trans hk), ← htake, hk, hd, Addr.advance_zero]
    rfl
  · simp only [adapterStep, hunits, if_neg hk, hd, htake, writeWordsTo_cursor, List.length_take, min_comm r]
    rfl

theorem adapterStep_writeChars (xs : List Nat) (hd : s.descOf d = cur.desc .input r) :
    adapterStep d (.writeChars xs) s = .next (s.answered d (writeCharsTo s.mem cur (xs.take r)).1
      ((writeCharsTo s.mem cur (xs.take r)).2.desc .input (r - xs.length)) []) := by
  have hunits : s.adapterUnits d (.writeChars xs) = min xs.length r := State.adapterUnits_eq hd
  have htake : xs.take (min xs.length r) = xs.take r := take_min_length _ _
  have hleft : r - min xs.length r = r - xs.length := by omega
  by_cases hk : min xs.length r = 0
  · rw [adapterStep_of_no_units (hunits.trans hk), ← htake, ← hleft, hk, hd]
    rfl
  · simp only [adapterStep, hunits, if_neg hk, hd, htake, hleft, CharCursor.desc]
    rfl

/-- Every answer counts its units off the descriptor, and writes memory only for an input. -/
theorem adapterStep_next_answered (h : adapterStep d c s = .next t) :
    ∃ mem e out, t = s.answered d mem e out ∧ e.remain = (s.descOf d).remain - s.adapterUnits d c ∧
      e.direction = (s.descOf d).direction ∧ ((s.descOf d).direction = .output → mem = s.mem) := by
  by_cases hk : s.adapterUnits d c = 0
  · rw [adapterStep_of_no_units hk, Host.Outcome.next.injEq] at h
    exact ⟨_, _, _, h.symm, by rw [hk, Nat.sub_zero], rfl, fun _ => rfl⟩
  · have hserves := (adapterStep_next_serves h).resolve_left hk
    unfold State.adapterUnits at hk ⊢
    generalize hd : s.descOf d = e at hserves hk ⊢
    cases hserves with
    | readWords n =>
      rw [adapterStep_readWords (n := n) hd (Nat.pos_of_ne_zero hk), Host.Outcome.next.injEq] at h
      exact ⟨_, _, _, h.symm, rfl, rfl, fun _ => rfl⟩
    | @readChars r a p b n =>
      rw [adapterStep_readChars (cur := ⟨a, p, b⟩) (n := n) hd (Nat.pos_of_ne_zero hk), Host.Outcome.next.injEq] at h
      exact ⟨_, _, _, h.symm, rfl, rfl, fun _ => rfl⟩
    | writeWords ws =>
      rw [adapterStep_writeWords ws hd, Host.Outcome.next.injEq] at h
      exact ⟨_, _, _, h.symm, rfl, rfl, nofun⟩
    | @writeChars r a p b cs =>
      rw [adapterStep_writeChars (cur := ⟨a, p, b⟩) cs hd, Host.Outcome.next.injEq] at h
      exact ⟨_, _, _, h.symm, show r - cs.length = r - min cs.length r by omega, rfl, nofun⟩

theorem adapterStep_next_of_no_units (hk : s.adapterUnits d c = 0) (h : adapterStep d c s = .next t) :
    t.mem = s.mem ∧ t.desc = s.desc := by
  rw [adapterStep_of_no_units hk] at h
  cases h
  exact ⟨rfl, Vector.set_getElem_self d.isLt⟩

end Answers

/-! ## The cursors of a character transfer -/

/-- The position counts mod 5, and the address advances where it comes back to 0 (R384, R385). -/
theorem CharCursor.step_eq (c : CharCursor) (buf : Word) :
    c.step buf = ⟨if c.pos.val = 4 then Addr.next c.addr else c.addr, c.pos + 1, buf⟩ := by
  have hlt := c.pos.isLt
  unfold CharCursor.step
  split
  · next hpos =>
    have hval : (c.pos + 1).val = c.pos.val + 1 := by rw [Fin.val_add]; exact Nat.mod_eq_of_lt hpos
    have hnext : c.pos + 1 = ⟨c.pos.val + 1, hpos⟩ := Fin.ext hval
    rw [if_neg (by omega), hnext]
  · next hpos =>
    have hlast : c.pos = 4 := Fin.ext (show c.pos.val = 4 by omega)
    rw [hlast]
    rfl

/-! ## The obligations -/

/-- Settles O53: the answer of the call is a record update of memory, the call's descriptor and the trace. -/
theorem adapterCallsTouchOnlyTheDescriptorAndMemory : Obligations.AdapterCallsTouchOnlyTheDescriptorAndMemory := by
  intro d c s t h
  have hnone : min c.count (s.descOf d).remain = 0 → t.mem = s.mem ∧ t.desc = s.desc := fun hk =>
    adapterStep_next_of_no_units hk h
  obtain ⟨mem, e, out, rfl, hremain, hdir, hout⟩ := adapterStep_next_answered h
  rw [State.answered_descOf_self]
  refine ⟨hremain, hdir, fun e' he' => ?_, ?_, hnone, rfl, hout⟩
  · rw [State.answered_descOf, if_neg he']
  · rw [State.answered, ← List.append_assoc, List.getLast?_concat]

/-- Settles O54: the laws of the two loops over words, up to the lesser of the count and the remaining count. -/
theorem wordAdaptersMoveWordsFromTheCursor : Obligations.WordAdaptersMoveWordsFromTheCursor := by
  constructor
  · intro d n r a s hd hk
    rw [adapterStep_readWords hd hk]
    rfl
  · intro d data r a s hwf hd hk hr
    have hlen : (data.take r).length = min data.length r := by rw [List.length_take, min_comm]
    refine ⟨_, adapterStep_writeWords data hd, fun j hj hjr => ?_, fun b hb => ?_, rfl⟩
    · have hword := writeWordsTo_word s.mem a (data.take r) hwf (by omega) j (by omega)
      rw [List.getElem_take] at hword
      exact (congrArg Word.toContainer hword).trans (Word.toContainer_ofContainer _)
    · exact writeWordsTo_other s.mem a b _ hwf fun j hj heq => hb j (hlen ▸ hj) (congrArg Fin.val heq)

/-- Settles O55: one pass of each loop over characters, at the position its cursor has. -/
theorem characterAdaptersMoveTheNextByte : Obligations.CharacterAdaptersMoveTheNextByte := by
  constructor
  · intro d r a p b s hd hr word next
    have hone : min 1 r = 1 := min_eq_left hr
    rw [adapterStep_readChars (cur := ⟨a, p, b⟩) hd hone.ge, hone, readCharsFrom, readCharsFrom, CharCursor.step_eq]
    rfl
  · intro d x r a p b s hd hr word
    have hwrite := adapterStep_writeChars (cur := ⟨a, p, b⟩) [x] hd
    rw [List.take_of_length_le hr, writeCharsTo, writeCharsTo, writeChar] at hwrite
    constructor
    · intro hp
      rw [if_neg hp.ne, CharCursor.step_eq, if_neg hp.ne] at hwrite
      exact hwrite
    · intro hp hwf
      rw [if_pos hp, CharCursor.step_eq, if_pos hp] at hwrite
      obtain rfl : p = 4 := Fin.ext hp
      exact ⟨_, hwrite, s.writeMem_readMem_same a word hwf,
        fun c hc => s.writeMem_readMem_other a c word hwf hc, rfl⟩

/-- Settles O56: the loop over characters runs on from where the first call left memory and the cursor; a call that moves
nothing in all moves nothing in pieces. -/
theorem characterInputMayComeInPieces : Obligations.CharacterInputMayComeInPieces := by
  intro d xs ys s t u v hxs hys hboth
  by_cases hk : s.adapterUnits d (.writeChars (xs ++ ys)) = 0
  · obtain ⟨hvmem, hvdesc⟩ := adapterStep_next_of_no_units hk hboth
    rw [State.adapterUnits_writeChars, List.length_append] at hk
    have hkx : s.adapterUnits d (.writeChars xs) = 0 := by rw [State.adapterUnits_writeChars]; omega
    obtain ⟨htmem, htdesc⟩ := adapterStep_next_of_no_units hkx hxs
    have htd : t.descOf d = s.descOf d := by rw [State.descOf, htdesc, State.descOf]
    have hky : t.adapterUnits d (.writeChars ys) = 0 := by rw [State.adapterUnits_writeChars, htd]; omega
    obtain ⟨humem, hudesc⟩ := adapterStep_next_of_no_units hky hys
    rw [humem, htmem, hvmem, hudesc, htdesc, hvdesc]
    exact ⟨rfl, rfl⟩
  · have hserves := (adapterStep_next_serves hboth).resolve_left hk
    generalize hd : s.descOf d = e at hserves
    cases hserves with
    | @writeChars r a p b _ =>
      replace hd : s.descOf d = CharCursor.desc ⟨a, p, b⟩ .input r := hd
      rw [adapterStep_writeChars _ hd] at hxs hboth
      cases hxs
      rw [adapterStep_writeChars ys (State.answered_descOf_self ..)] at hys
      cases hys
      rw [List.take_append, writeCharsTo_append, List.length_append, Nat.sub_add_eq] at hboth
      cases hboth
      exact ⟨rfl, Vector.set_set _ d.isLt⟩

end Sys2Proof.Machine
end

section
/-! The input/output instructions (46_io.md R350 to R372): obligations O48 to O52. -/

namespace Sys2Proof.Machine

/-! ## The five instructions -/

section Exec
variable (m : AddrSpec) (s : State)

theorem exec_inp (f : Nat) : exec (.inp m f) s =
    .next (s.withDevice f fun t d => t.whenFree d fun u => u.startTransfer m .input d) := rfl

theorem exec_out (f : Nat) : exec (.out m f) s =
    .next (s.withDevice f fun t d => t.whenFree d fun u => u.startTransfer m .output d) := rfl

theorem exec_ioc (f : Nat) : exec (.ioc m f) s =
    .next (s.withDevice f fun t d => t.whenFree d fun u => u.control m d) := rfl

theorem exec_jbus (f : Nat) : exec (.jbus m f) s = .next (s.withDevice f fun t d => t.branchDevice m true d) := rfl

theorem exec_jred (f : Nat) : exec (.jred m f) s = .next (s.withDevice f fun t d => t.branchDevice m false d) := rfl

/-- All five validate the device first. -/
theorem exec_eq_withDevice (f : Nat) : ∀ i ∈ [Instr.inp m f, .out m f, .ioc m f, .jbus m f, .jred m f],
    ∃ body : State → Device → State, exec i s = .next (s.withDevice f body) := by
  simp only [List.forall_mem_cons]
  exact ⟨⟨_, exec_inp m s f⟩, ⟨_, exec_out m s f⟩, ⟨_, exec_ioc m s f⟩, ⟨_, exec_jbus m s f⟩, ⟨_, exec_jred m s f⟩,
    nofun⟩

/-- IN, OUT and IOC wait for a device that is valid. -/
theorem exec_eq_whenFree (d : Device) : ∀ i ∈ [Instr.inp m d.val, .out m d.val, .ioc m d.val],
    ∃ go : State → State, exec i s = .next (s.whenFree d go) := by
  simp only [List.forall_mem_cons, exec_inp, exec_out, exec_ioc, State.withDevice_val]
  exact ⟨⟨_, rfl⟩, ⟨_, rfl⟩, ⟨_, rfl⟩, nofun⟩

end Exec

/-- The query, where its answer is known. -/
theorem State.query_eq {s : State} {d : Device} {b : Bool} (h : s.isBusy d = b) :
    s.query d = s.emit (.busyQuery d b) := by
  rw [State.query, h]

/-- Settles O50: the device is validated before anything else. -/
theorem invalidDeviceIsANoOperation : Obligations.InvalidDeviceIsANoOperation := by
  intro m f s hf i hi
  obtain ⟨body, hexec⟩ := exec_eq_withDevice m s f i hi
  rw [hexec, State.withDevice_above s f body hf]
  rfl

/-! ## A transfer (R353) -/

theorem State.startTransfer_eq (s : State) (m : AddrSpec) (dir : Direction) (d : Device) :
    s.startTransfer m dir d = { s with
      desc := s.desc.set d.val (newDesc d dir (s.mAddr m)),
      trace := s.trace ++ (s.addrWarnings m).map Event.warning ++ [beginEvent d (newDesc d dir (s.mAddr m))] } :=
  rfl

/-- Settles O48: both instructions start the transfer after the query, and the device's mode and block are those of R350. -/
theorem inAndOutHandOverADescriptor : Obligations.InAndOutHandOverADescriptor := by
  intro m d s hfree units after
  have hwords : d.val < 16 ↔ d.val ≤ 15 := Nat.lt_succ_iff
  have hcards : d.val < 18 ↔ d.val ≤ 17 := Nat.lt_succ_iff
  have hstart (dir : Direction) : (s.query d).startTransfer m dir d = after dir := by
    rw [State.startTransfer_eq, State.query_eq hfree]
    simp only [newDesc, beginEvent, blockUnits, hwords, hcards]
    rfl
  rw [exec_inp, exec_out, State.withDevice_val, State.withDevice_val, State.whenFree_free s d _ hfree,
    State.whenFree_free s d _ hfree, hstart, hstart]
  exact ⟨rfl, rfl⟩

/-! ## Device control (R360) -/

/-- What IOC puts out: the operation, or W8 where there is none. -/
def controlEvent : Option ControlOp → Event
  | some op => .deviceControl op
  | none => .warning .w8

theorem State.control_eq (s : State) (m : AddrSpec) (d : Device) :
    s.control m d = { s with
      trace := s.trace ++ (if 6 < m.idx then [.warning .w2] else []) ++ [controlEvent (controlOf d (s.mRaw m))] } := by
  rw [← map_indexWarnings]
  unfold State.control
  dsimp only
  split
  · next op hop => rw [hop]; rfl
  · next hop => rw [hop]; rfl

section Control
variable {d : Device} {n : Int}

theorem controlOf_tape_zero (hd : d.val ≤ 7) : controlOf d 0 = some (.rewind d) := by
  rw [controlOf, if_pos hd, if_pos rfl]

theorem controlOf_tape_of_neg (hd : d.val ≤ 7) (hn : n < 0) :
    controlOf d n = some (.skipBackward d (100 * (-n).toNat)) := by
  have habs : n.natAbs = (-n).toNat := by omega
  rw [controlOf, if_pos hd, if_neg hn.ne, if_pos hn, habs]

theorem controlOf_tape_of_pos (hd : d.val ≤ 7) (hn : 0 < n) :
    controlOf d n = some (.skipForward d (100 * n.toNat)) := by
  have habs : n.natAbs = n.toNat := by omega
  rw [controlOf, if_pos hd, if_neg hn.ne', if_neg hn.not_gt, habs]

theorem controlOf_printer (hd : d.val = 18) (n : Int) :
    controlOf d n = if n = 0 then some .skipToNextPage else none := by
  obtain rfl : d = printer := Fin.ext hd
  rfl

theorem controlOf_other (htape : 7 < d.val) (hprinter : d.val ≠ 18) (n : Int) : controlOf d n = none := by
  have hd : d ≠ printer := fun h => hprinter (congrArg Fin.val h)
  rw [controlOf, if_neg htape.not_ge, if_neg hd]

end Control

/-- Settles O49: after the query IOC puts out one event, chosen by the device and M. -/
theorem iocIssuesTheControlOperation : Obligations.IocIssuesTheControlOperation := by
  intro m d s hfree after
  have hexec : exec (.ioc m d.val) s = .next (after (controlEvent (controlOf d (s.mRaw m)))) := by
    rw [exec_ioc, State.withDevice_val, State.whenFree_free s d _ hfree, State.control_eq, State.query_eq hfree]
    rfl
  rw [hexec]
  refine ⟨fun hd => ⟨fun hM => ?_, fun hM => ?_, fun hM => ?_⟩, fun hd => ⟨fun hM => ?_, fun hM => ?_⟩,
    fun htape hprinter => ?_⟩
  · rw [hM, controlOf_tape_zero hd, controlEvent]
  · rw [controlOf_tape_of_neg hd hM, controlEvent]
  · rw [controlOf_tape_of_pos hd hM, controlEvent]
  · rw [controlOf_printer hd, if_pos hM, controlEvent]
  · rw [controlOf_printer hd, if_neg hM, controlEvent]
  · rw [controlOf_other htape hprinter, controlEvent]

/-! ## The busy device (R352) -/

/-- The execute phase of a word that decodes. -/
theorem execFetched_of_ok {s t : State} {i : Instr} (hdecode : decode s.ir = .ok i) (hexec : exec i s = .next t) :
    execFetched s = .next (t.charge (cycleCost i s)) := by
  rw [execFetched, hdecode]
  dsimp only
  rw [hexec]

theorem State.finds_val (s : State) (d : Device) : s.finds d.val = s.isBusy d := by
  rw [State.finds, deviceOf_val]

/-- The pass that finds the device busy charges nothing (R7, R352). -/
theorem cycleCost_of_busy {m : AddrSpec} {d : Device} {s : State} (hbusy : s.isBusy d = true) :
    ∀ i ∈ [Instr.inp m d.val, .out m d.val, .ioc m d.val], cycleCost i s = 0 := by
  have hfinds : s.finds d.val = true := (s.finds_val d).trans hbusy
  simp [cycleCost, hfinds]

/-- Settles O51: the test of the device comes before the address, and its rollback undoes the fetch's advance of pc. -/
theorem busyDeviceRollsTheInstructionBack : Obligations.BusyDeviceRollsTheInstructionBack := by
  intro m d s hruns hbusy i hi hdecode
  have hanswer : s.popTurn.fetch.isBusy d = true := hbusy
  obtain ⟨go, hexec⟩ := exec_eq_whenFree m s.popTurn.fetch d i hi
  rw [State.whenFree_busy _ d go hanswer, State.query_eq hanswer] at hexec
  rw [step_runs s hruns, execFetched_of_ok hdecode hexec, cycleCost_of_busy hanswer i hi, State.waitForDevice,
    State.emit_trace, List.append_assoc]
  rfl

/-! ## The device jumps (R370 to R372) -/

section Branch
variable {s : State} {d : Device} {taken : Bool}

theorem State.branchDevice_of_eq (m : AddrSpec) (h : s.busy[d.val] = taken) :
    s.branchDevice m taken d = { s with
      rJ := BitVec.ofNat 12 s.pc.val, pc := s.mAddr m,
      trace := s.trace ++ (s.addrWarnings m).map Event.warning ++ [.busyQuery d s.busy[d.val]] } := by
  have hanswer : (s.isBusy d == taken) = true := beq_iff_eq.mpr h
  rw [State.branchDevice, hanswer]
  rfl

theorem State.branchDevice_of_ne (m : AddrSpec) (h : s.busy[d.val] ≠ taken) :
    s.branchDevice m taken d = { s with
      trace := s.trace ++ (s.addrWarnings m).map Event.warning ++ [.busyQuery d s.busy[d.val]] } := by
  have hanswer : (s.isBusy d == taken) = false := beq_eq_false_iff_ne.mpr h
  rw [State.branchDevice, hanswer]
  rfl

end Branch

/-- Settles O52: both jump on one of the two answers of the query and fall through on the other. -/
theorem deviceJumpsQueryOnce : Obligations.DeviceJumpsQueryOnce := by
  intro m d s fall taken
  rw [exec_jbus, exec_jred, State.withDevice_val, State.withDevice_val]
  by_cases hbusy : s.busy[d.val] = true
  · have hready : s.busy[d.val] ≠ false := by rw [hbusy]; decide
    rw [if_pos hbusy, if_pos hbusy, State.branchDevice_of_eq m hbusy, State.branchDevice_of_ne m hready]
    exact ⟨rfl, rfl⟩
  · have hready : s.busy[d.val] = false := by simpa using hbusy
    rw [if_neg hbusy, if_neg hbusy, State.branchDevice_of_ne m hbusy, State.branchDevice_of_eq m hready]
    exact ⟨rfl, rfl⟩

end Sys2Proof.Machine
end

section
/-! The run-state machine and the host's controls (47_run_state.md R400 to R412): obligations O6 and O11 to O16. -/

namespace Sys2Proof.Machine

/-- The agent whose turn is next moves, its turn taken off the schedule. -/
theorem step_of_nextTurn {s : State} {turn : Turn} (h : s.nextTurn = turn) : step s = takeTurn turn s.popTurn := by
  rw [step, h]

/-! ## The RUNNING step (R401) -/

/-- Settles O6: the step is the execute phase after the fetch, and the execute phase always answers a next state. -/
theorem stepRunsTheDecodedInstruction : Obligations.StepRunsTheDecodedInstruction := by
  intro s i hruns hdecode s1
  obtain ⟨t, hexec, -⟩ := exec_keeps i s1
  have hstep : step s = .next (t.charge (cycleCost i s1)) :=
    (step_runs s hruns).trans (execFetched_of_ok hdecode hexec)
  rw [hstep, hexec]
  rfl

/-! ## The driver by run state (R400) -/

section Driver
variable {s : State}

theorem driverStep_of_halt (h : s.rs = .halt) : driverStep s = .next s := by rw [driverStep, h]

theorem driverStep_of_waitDevice {d : Device} (h : s.rs = .waitDevice d) : driverStep s = .next (s.waitStep d) := by
  rw [driverStep, h]

theorem driverStep_of_bootRead0 (h : s.rs = .bootRead0) : driverStep s = .next s.bootStep0 := by rw [driverStep, h]

theorem driverStep_of_bootRead1 (h : s.rs = .bootRead1) : driverStep s = .next s.bootStep1 := by rw [driverStep, h]

end Driver

/-! ## The device wait (R403) -/

theorem State.waitStep_of_busy {s : State} {d : Device} (hbusy : s.isBusy d = true) :
    s.waitStep d = { s with trace := s.trace ++ [.busyQuery d true], cyc := s.runBudget.getD s.cyc } := by
  rw [State.waitStep, if_pos hbusy, State.query_eq hbusy, State.spendBudget_eq]
  rfl

theorem State.waitStep_of_free {s : State} {d : Device} (hfree : s.isBusy d = false) :
    s.waitStep d = { s with
      trace := s.trace ++ [.busyQuery d false, .notifyWaiting d false], wn := false, rs := .running } := by
  rw [State.waitStep, if_neg (Bool.eq_false_iff.mp hfree), State.query_eq hfree, State.endWaiting, State.emit_trace,
    List.append_assoc]
  rfl

/-- Settles O12: the driver polls the device, whose answer chooses between the two waits. -/
theorem waitDeviceStepPollsTheDevice : Obligations.WaitDeviceStepPollsTheDevice := by
  intro s d hturn hrs hmay
  have hstep : step s = .next (s.popTurn.waitStep d) := (step_core s hturn hmay).trans (driverStep_of_waitDevice hrs)
  refine ⟨fun hbusy => ?_, fun hfree => ?_⟩
  · rw [hstep, State.waitStep_of_busy (s := s.popTurn) hbusy]
    rfl
  · rw [hstep, State.waitStep_of_free (s := s.popTurn) hfree]
    rfl

/-! ## The boot states (R406, R407) -/

/-- The notification is put out once: not where the latch says that it has been. -/
theorem State.bootWait_trace (s : State) :
    s.bootWait.trace = s.trace ++ if s.wn then [] else [.notifyWaiting cardReader true] := by
  rw [State.bootWait, State.spendBudget_eq]
  cases s.wn
  · rfl
  · exact (List.append_nil _).symm

theorem State.bootWait_cyc (s : State) : s.bootWait.cyc = s.runBudget.getD s.cyc := by
  rw [State.bootWait, State.spendBudget_eq]
  cases s.wn <;> rfl

theorem State.bootReady_trace (s : State) :
    s.bootReady.trace = s.trace ++ if s.wn then [.notifyWaiting cardReader false] else [] := by
  rw [State.bootReady]
  cases s.wn
  · exact (List.append_nil _).symm
  · rfl

section Boot
variable {s : State}

/-- The wait for the card reader, the same in both boot states. -/
theorem State.query_bootWait (hbusy : s.isBusy cardReader = true) :
    (s.query cardReader).bootWait = { s with
      wn := true, cyc := s.runBudget.getD s.cyc,
      trace := s.trace ++ [.busyQuery cardReader true] ++ if s.wn then [] else [.notifyWaiting cardReader true] } := by
  rw [State.bootWait_eq, State.bootWait_trace, State.bootWait_cyc, State.query_eq hbusy]
  rfl

/-- The end of that wait, the same in both boot states. -/
theorem State.query_bootReady (hfree : s.isBusy cardReader = false) :
    (s.query cardReader).bootReady = { s with
      wn := false,
      trace := s.trace ++ [.busyQuery cardReader false] ++ if s.wn then [.notifyWaiting cardReader false] else [] } := by
  rw [State.bootReady_eq, State.bootReady_trace, State.query_eq hfree]
  rfl

theorem State.bootStep0_of_busy (hbusy : s.isBusy cardReader = true) : s.bootStep0 = (s.query cardReader).bootWait :=
  if_pos hbusy

theorem State.bootStep0_of_free (hfree : s.isBusy cardReader = false) :
    s.bootStep0 = { (s.query cardReader).bootReady.beginIO cardReader .input 0 with rs := .bootRead1 } :=
  if_neg (Bool.eq_false_iff.mp hfree)

theorem State.bootStep1_of_busy (hbusy : s.isBusy cardReader = true) : s.bootStep1 = (s.query cardReader).bootWait :=
  if_pos hbusy

theorem State.bootStep1_of_free (hfree : s.isBusy cardReader = false) :
    s.bootStep1 = { (s.query cardReader).bootReady with pc := 0, rJ := 0#12, rs := .running } :=
  if_neg (Bool.eq_false_iff.mp hfree)

end Boot

/-- Settles O13: the card reader's answer chooses between the boot wait and its end with the card read handed over. -/
theorem bootReadZeroIssuesTheCardRead : Obligations.BootReadZeroIssuesTheCardRead := by
  intro s hturn hrs hmay
  have hstep : step s = .next s.popTurn.bootStep0 := (step_core s hturn hmay).trans (driverStep_of_bootRead0 hrs)
  refine ⟨fun hbusy => ?_, fun hfree => ?_⟩
  · rw [hstep, State.bootStep0_of_busy (s := s.popTurn) hbusy, State.query_bootWait (s := s.popTurn) hbusy]
    rfl
  · rw [hstep, State.bootStep0_of_free (s := s.popTurn) hfree, State.query_bootReady (s := s.popTurn) hfree]
    rfl

/-- Settles O14: the wait is the one of BOOT_READ(0), and at its end execution starts at 0. -/
theorem bootReadOneStartsExecutionAtZero : Obligations.BootReadOneStartsExecutionAtZero := by
  intro s hturn hrs hmay
  have hstep : step s = .next s.popTurn.bootStep1 := (step_core s hturn hmay).trans (driverStep_of_bootRead1 hrs)
  refine ⟨fun hbusy => ?_, fun hfree => ?_⟩
  · rw [hstep, State.bootStep1_of_busy (s := s.popTurn) hbusy, State.query_bootWait (s := s.popTurn) hbusy]
    rfl
  · rw [hstep, State.bootStep1_of_free (s := s.popTurn) hfree, State.query_bootReady (s := s.popTurn) hfree]
    rfl

/-! ## The boot request (R408) -/

section BootRequest
variable {s : State}

theorem State.boot_of_waiting {d : Device} (hrs : s.rs = .waitDevice d) (hwn : s.wn = true) :
    s.boot = { s.endWaiting d with rs := .bootRead0 } := by
  rw [State.boot, hrs]
  exact if_pos hwn

theorem State.boot_of_not_waiting (h : ∀ d : Device, s.rs = .waitDevice d → s.wn = false) :
    s.boot = { s with rs := .bootRead0 } := by
  unfold State.boot
  split
  · next d hrs => exact if_neg (Bool.eq_false_iff.mp (h d hrs))
  · rfl

end BootRequest

/-- Settles O15: the host's turn is `boot`, which clears the notification of a device wait and of no other. -/
theorem bootRequestIsAcceptedInEveryState : Obligations.BootRequestIsAcceptedInEveryState := by
  intro s hturn
  have hstep : step s = .next s.popTurn.boot := step_of_nextTurn hturn
  refine ⟨fun d hrs hwn => ?_, fun hnot => ?_⟩
  · rw [hstep, State.boot_of_waiting (s := s.popTurn) hrs hwn]
    rfl
  · rw [hstep, State.boot_of_not_waiting (s := s.popTurn) hnot]
    rfl

/-! ## The run transaction (R410, R411) -/

section RunTransaction
variable {s : State}

theorem hostRunStep_of_none (b : Nat) (h : s.runBudget = none) :
    hostRunStep b s = .next { s with cyc := 0, runBudget := some b } := by
  rw [hostRunStep, h]

theorem State.mayStep_of_none (h : s.runBudget = none) : s.mayStep = true := by
  rw [State.mayStep, h]

theorem State.mayStep_of_some {b : Nat} (h : s.runBudget = some b) :
    s.mayStep = (decide (s.cyc < b) && decide (s.rs ≠ .halt)) := by
  rw [State.mayStep, h]

/-- The loop of the run transaction is over where the budget is reached or the core is halted. -/
theorem State.mayStep_of_over {b : Nat} (hb : s.runBudget = some b) (hover : b ≤ s.cyc ∨ s.rs = .halt) :
    s.mayStep = false := by
  rw [State.mayStep_of_some hb]
  rcases hover with hcyc | hrs
  · rw [decide_eq_false hcyc.not_gt, Bool.false_and]
  · rw [hrs]
    exact Bool.and_false _

/-- Where the core moves and the loop of its run transaction is over, the step ends the transaction. -/
theorem step_core_ends (h : s.nextTurn = .core) (hm : s.mayStep = false) : step s = .next s.popTurn.endRun := by
  rw [step_of_nextTurn h]
  exact if_neg (Bool.eq_false_iff.mp hm)

theorem State.forceHalt_of_clear (hwn : s.wn = false) : s.forceHalt = { s with rs := .halt } := by
  rw [State.forceHalt, if_neg (Bool.eq_false_iff.mp hwn)]

theorem State.forceHalt_of_awaits {d : Device} (hwn : s.wn = true) (hd : s.rs.awaits = some d) :
    s.forceHalt = { s.endWaiting d with rs := .halt } := by
  rw [State.forceHalt, if_pos hwn, hd]

theorem State.stopCheck_of_none (h : s.signals = none) : s.stopCheck = s := by
  rw [State.stopCheck, h]

theorem State.stopCheck_of_continue (h : s.signals = some false) : s.stopCheck = s.emit (.signalsChecked false) := by
  rw [State.stopCheck, h]
  rfl

theorem State.stopCheck_of_stop (h : s.signals = some true) :
    s.stopCheck = (s.emit (.signalsChecked true)).forceHalt := by
  rw [State.stopCheck, h]
  rfl

theorem RunState.awaits_of_waiting {r : RunState} {d : Device}
    (h : r = .waitDevice d ∨ d = cardReader ∧ (r = .bootRead0 ∨ r = .bootRead1)) : r.awaits = some d := by
  obtain rfl | ⟨rfl, rfl | rfl⟩ := h <;> rfl

end RunTransaction

/-- Settles O16: a run begins with CYC = 0; the loop over, the four cases of the stop check give the state that is
returned. -/
theorem runTransactionBeginsAndEnds : Obligations.RunTransactionBeginsAndEnds := by
  refine ⟨fun s b hturn hnone => ?_, fun s b hturn hb hover => ?_⟩
  · rw [step_of_nextTurn hturn]
    exact hostRunStep_of_none b hnone
  have hstep : step s = .next s.popTurn.endRun := step_core_ends hturn (State.mayStep_of_over hb hover)
  rw [hstep, State.endRun]
  refine ⟨fun hnone => ?_, fun hgo => ?_, fun hstop hwn => ?_, fun hstop hwn d hd => ?_⟩
  · rw [State.stopCheck_of_none (s := s.popTurn) hnone]
    rfl
  · rw [State.stopCheck_of_continue (s := s.popTurn) hgo, State.emit, List.append_assoc]
    rfl
  · rw [State.stopCheck_of_stop (s := s.popTurn) hstop, State.forceHalt_of_clear (s := s.popTurn.emit _) hwn,
      State.emit, List.append_assoc]
    rfl
  · have hawaits : s.rs.awaits = some d := RunState.awaits_of_waiting hd
    rw [State.stopCheck_of_stop (s := s.popTurn) hstop,
      State.forceHalt_of_awaits (s := s.popTurn.emit _) hwn hawaits, State.endWaiting, State.emit, List.append_assoc,
      List.append_assoc]
    rfl

/-! ## HALT (R404, R405, R412) -/

section Halt
variable {s t : State}

/-- The stop check leads nowhere from HALT but to HALT. -/
theorem State.stopCheck_keeps_halt (h : s.rs = .halt) : s.stopCheck.rs = .halt := by
  unfold State.stopCheck
  split
  · exact h
  · split
    · rw [State.forceHalt_eq]
    · exact h

theorem coreStep_keeps_halt (h : s.rs = .halt) (hstep : coreStep s = .next t) : t.rs = .halt := by
  rw [coreStep, driverStep_of_halt h] at hstep
  split at hstep
  · cases hstep
    exact h
  · cases hstep
    exact State.stopCheck_keeps_halt h

theorem adapterStep_rs {d : Device} {c : AdapterCall} (h : adapterStep d c s = .next t) : t.rs = s.rs := by
  obtain ⟨mem, e, out, rfl, -⟩ := adapterStep_next_answered h
  rfl

theorem hostRunStep_rs {b : Nat} (h : hostRunStep b s = .next t) : t.rs = s.rs := by
  unfold hostRunStep at h
  split at h
  · cases h
    rfl
  · cases h

theorem takeTurn_keeps_halt {turn : Turn} (h : s.rs = .halt) (hstep : takeTurn turn s = .next t) :
    t.rs = .halt ∨ turn = .hostBoot ∨ turn = .hostReset := by
  cases turn with
  | core => exact .inl (coreStep_keeps_halt h hstep)
  | adapter d c => exact .inl ((adapterStep_rs hstep).trans h)
  | setBusy d b => cases hstep; exact .inl h
  | setSignals stop => cases hstep; exact .inl h
  | hostReset => exact .inr (.inr rfl)
  | hostBoot => exact .inr (.inl rfl)
  | hostRun b => exact .inl ((hostRunStep_rs hstep).trans h)

end Halt

/-- Settles O11: the driver is idle in HALT, and of the turns of all agents only the host's boot and initialize write
another run state. -/
theorem haltIsLeftOnlyByBootOrInitialize : Obligations.HaltIsLeftOnlyByBootOrInitialize := by
  intro s t hrs hstep
  have hpop : s.popTurn.rs = .halt := hrs
  refine ⟨fun hturn hnone => ?_, takeTurn_keeps_halt hpop hstep⟩
  rw [step_core s hturn (State.mayStep_of_none hnone), driverStep_of_halt hpop, Host.Outcome.next.injEq] at hstep
  exact hstep.symm

end Sys2Proof.Machine
end

section
/-! STJ and STZ (40_field_loadstore.md section 6): obligation O20. -/

namespace Sys2Proof.Machine

/-- `word(0, rJ)` holds the 12 bits of rJ below 18 zeros: no bit is lost. -/
theorem State.rJWord_eq (s : State) : s.rJWord = ⟨false, s.rJ.setWidth 30⟩ := by
  rw [State.rJWord, word, BitVec.ofNat_toNat]

theorem exec_stj (m : AddrSpec) (f : Nat) (s : State) : exec (.stj m f) s = .next (s.storeField s.rJWord m f) := rfl

theorem exec_stz (m : AddrSpec) (f : Nat) (s : State) : exec (.stz m f) s = .next (s.storeField Word.plusZero m f) := rfl

/-- An instruction that runs the store template on `v` replaces the field at M, and changes nothing else. -/
theorem exec_stores_at_mAddr_only {i : Instr} {v : Word} {m : AddrSpec} {f : Nat} {s : State}
    (hexec : exec i s = .next (s.storeField v m f)) (h : Memory.wf s.mem = true) :
    ∃ t : State, exec i s = .next t ∧
      t.readMem (s.mAddr m) = fieldStore (s.readMem (s.mAddr m)) (fieldSpec f) v ∧
      (∀ a : Addr, a ≠ s.mAddr m → t.readMem a = s.readMem a) ∧
      t = { s with mem := t.mem, trace := s.trace ++ (s.operandWarnings m f).map Event.warning } :=
  ⟨s.storeField v m f, hexec, s.storeField_readMem_same v m f h, fun _ ha => s.storeField_readMem_other v m f h ha,
    s.storeField_eq v m f⟩

/-- Settles O20: both are the store template, STJ from `word(0, rJ)` and STZ from +0, one write at M. -/
theorem storeJumpAndStoreZeroAtMOnly : Obligations.StoreJumpAndStoreZeroAtMOnly := by
  intro m f s h
  rw [← s.rJWord_eq]
  exact ⟨exec_stores_at_mAddr_only (exec_stj m f s) h, exec_stores_at_mAddr_only (exec_stz m f s) h⟩

end Sys2Proof.Machine
end
